-- ==== Sys2Proof/Word.lean ====
section
/-! DEFINITION. The word of the wire. -/

namespace Sys2Proof

/-- One 16-bit word: every field on the ring, every table entry and every drive level is one (R2, R159). -/
abbrev Word := BitVec 16

end Sys2Proof
end

