-- ==== Sys2Proof/Config.lean ====
section
/-! DEFINITION. The numbers the manual fixes for the part. It leaves no constant of the part open, so there is
no free value here. -/

namespace Sys2Proof.Config

/-- Entries the Reply Queue holds at most, reservations counted (R119). -/
abbrev maxEntries : Nat := 12

/-- Notice records the Reply Queue holds at most (R119). -/
abbrev maxNotices : Nat := 4

/-- Payload words of a packet at most (R153, Table 9-5). -/
abbrev maxPayload : Nat := 1024

/-- Words of the holding buffer, and of the longest whole packet (R150). -/
abbrev maxPacket : Nat := 1027

/-- Words of forwarded packets the send queue holds at most (R151). -/
abbrev sendQueueWords : Nat := 4096

/-- A packet received whole while the forwarded packets hold more words than this is overrun (R151). -/
abbrev overrunLimit : Nat := 3069

/-- Parameter count of a CONTROL packet at most (Table 9-3). -/
abbrev maxParams : Nat := 1000

/-- A COLLECT's capacity is taken as this when it is greater (R130). -/
abbrev maxCapacity : Nat := 1000

/-- Pixels of a PIXEL packet that Pixel Intake takes at most (R31). -/
abbrev maxPixels : Nat := 256

/-- Entries one READ TABLE returns at most (R13). -/
abbrev maxRead : Nat := 60

/-- Values one WRITE TABLE carries at most (R12). -/
abbrev maxWrite : Nat := 256

/-- Period of the link-notice timer, in milliseconds (R146). -/
abbrev linkNoticePeriod : Nat := 250

/-- Answer limit of a conversion request, in milliseconds (R69). -/
abbrev answerLimit : Nat := 20

/-- Greatest generation of a table store image (R81). -/
abbrev maxGeneration : BitVec 32 := 4294967295#32

/-- The revision an IDENTITY record reports (R142). -/
abbrev revision : Word := 1#16

/-- The word that encodes NONE and most absent values (Table 9-19). -/
abbrev noneWord : Word := 0xFFFF#16

/-- The word that encodes an absent temperature reading (Table 9-19). -/
abbrev noReading : Word := 0x8000#16

end Sys2Proof.Config
end

