-- ==== Sys2Proof/Syntax.lean ====
section
/-! DEFINITION. The commands the block takes from outside, one constructor of `Instr` per row of
spec/opcode_table.json, and the structured packets and CONTROL commands they carry (R159, Tables 9-5 to 9-13). -/

namespace Sys2Proof

/-- The six calibration tables (R1). -/
inductive TableName where
  | curve | gain | profile | bands | window | timing
deriving DecidableEq, Repr

/-- One entry that the non-volatile memory failed to take while it was programmed: what VERIFY will read back there
instead of the live bank's entry (R88). -/
structure Defect where
  table : TableName
  index : Nat
  value : Word
deriving DecidableEq, Repr

/-- A CONTROL packet without its command code and parameters (Table 9-8). `attrs` is bits 15 to 8 of the kind word,
bit 0 of which is RESYNC (Table 9-5). `refusalMap` holds the four words of the refusal map in GROUP and ALL modes
and is empty in every other mode. -/
structure Header where
  attrs : BitVec 8
  mode : Word
  value : Word
  sequence : Word
  disposition : Word
  accepts : Word
  refuses : Word
  refusalMap : List Word
deriving DecidableEq, Repr

/-- The content of a packet of one of the seven defined kinds (Tables 9-6 to 9-9). Each carries the attribute byte of
its kind word; a CONTROL packet's stands in its header. -/
inductive Packet where
  | fill (attrs : BitVec 8) (payload : List Word)
  | pixel (attrs : BitVec 8) (frame line column count : Word) (samples : List Word)
  | showFrame (attrs : BitVec 8) (frame : Word)
  | control (h : Header) (code : Word) (params : List Word)
  | collect (attrs : BitVec 8) (mode value capacity : Word) (records : List Word)
  | enum (attrs : BitVec 8) (next : Word)
  | linkNotice (attrs : BitVec 8) (origin cause number : Word)
deriving DecidableEq, Repr

/-- The fifteen CONTROL commands with their parameters as words (Tables 6-1 and 9-13). -/
inductive Command where
  | identify
  | setIdentity (logicalId groups : Word)
  | writeTable (table start : Word) (values : List Word)
  | readTable (bank table start count : Word)
  | copyLive
  | commit (kind frame : Word)
  | cancelCommit
  | storeTables
  | loadStored
  | readStatus
  | readTemperature
  | setState (target pattern red green blue : Word)
  | setNotices (mask : Word)
  | clearCounters
  | resetNode
deriving DecidableEq, Repr

/-- The rows of spec/opcode_table.json, in the table's order: events at the pins, packets received whole, CONTROL
packets by their command, and events inside the part. A packet row stands for that packet received whole on the ring
input; the rows of well-formed packets carry its fields and no check word, which is the right one (R152), and the
rows DAMAGED PACKET, UNKNOWN PACKET and OVERRUN PACKET carry its words as they came. -/
inductive Instr where
  | hardResetAsserted
  | hardResetRelease
  | lockGained
  | lossOfLock
  | linkNoticeTimerExpiry
  | fill (attrs : BitVec 8) (payload : List Word)
  | pixel (attrs : BitVec 8) (frame line column count : Word) (samples : List Word)
  | showFrame (attrs : BitVec 8) (frame : Word)
  | collect (attrs : BitVec 8) (mode value capacity : Word) (records : List Word)
  | enum (attrs : BitVec 8) (next : Word)
  | linkNotice (attrs : BitVec 8) (origin cause number : Word)
  | damagedPacket (words : List Word)
  | unknownPacket (words : List Word)
  | overrunPacket (words : List Word)
  | forwardPacket
  | sendFill
  | identify (h : Header)
  | setIdentity (h : Header) (logicalId groups : Word)
  | writeTable (h : Header) (table start : Word) (values : List Word)
  | readTable (h : Header) (bank table start count : Word)
  | copyLive (h : Header)
  | commit (h : Header) (kind frame : Word)
  | cancelCommit (h : Header)
  | storeTables (h : Header)
  | loadStored (h : Header)
  | readStatus (h : Header)
  | readTemperature (h : Header)
  | setState (h : Header) (target pattern red green blue : Word)
  | setNotices (h : Header) (mask : Word)
  | clearCounters (h : Header)
  | resetNode (h : Header)
  | unknownCommand (h : Header) (code : Word) (params : List Word)
  | resetNodeTakesEffect
  | holdTimerExpiry
  | sampleTimerExpiry
  | sensorAnswer (reading : Word)
  | answerLimitExpiry
  | refreshBoundary
  | eraseCompletion
  | programCompletion (defects : List Defect)
  | verifyCompletion
  | loadCompletion
  | startupReadCompletion
deriving DecidableEq, Repr

end Sys2Proof
end

