-- ==== Sys2Proof/Decode.lean ====
section
/-! DEFINITION. The wire: the check word (R152), the layout of every packet kind (R159, Tables 9-5 to 9-13), the
judgement of a run of words as well-formed, damaged or unknown (R150, R153, R154), and the row of the opcode table
that such a run is. -/

namespace Sys2Proof

/-! ### The check word (R152) -/

/-- One bit of the CRC with generator x^16 + x^12 + x^5 + 1: no reflection, the incoming bit at the top. -/
def crcBit (register : Word) (bit : Bool) : Word :=
  if register.msb != bit then (register <<< 1) ^^^ 0x1021#16 else register <<< 1

/-- The `n` most significant bits of `w`, most significant first. -/
def crcBits : Nat → Word → Word → Word
  | 0, _, register => register
  | n + 1, w, register => crcBits n (w <<< 1) (crcBit register w.msb)

/-- R152: the register after the words, from a register of all ones, with no final inversion. -/
def crc (ws : List Word) : Word :=
  ws.foldl (fun register w => crcBits 16 w register) 0xFFFF#16

/-! ### Packets as words (R159) -/

/-- The kind word: attribute bits over the kind code (Table 9-5). -/
def kindWord (attrs : BitVec 8) (code : Nat) : Word := BitVec.ofNat 16 (attrs.toNat * 256 + code)

/-- Bits 7 to 0 of a kind word. -/
def kindCode (w : Word) : Nat := w.toNat % 256

/-- Bits 15 to 8 of a kind word. -/
def kindAttrs (w : Word) : BitVec 8 := BitVec.ofNat 8 (w.toNat / 256)

/-- The RESYNC flag: bit 8 of the kind word, bit 0 of the attribute byte (Table 9-5). -/
def resync (attrs : BitVec 8) : Bool := attrs.getLsbD 0

/-- A whole packet: kind word, length word, payload and the check word over the words before it (Table 9-5). -/
def withCheck (kind : Word) (payload : List Word) : List Word :=
  let checked := kind :: BitVec.ofNat 16 payload.length :: payload
  checked ++ [crc checked]

/-- GROUP and ALL are the multicast modes (Table 9-10). -/
def isMulticast (mode : Word) : Bool := mode == 3#16 || mode == 4#16

/-- Kind codes (Table 9-6). -/
def Packet.kind : Packet → Nat
  | .fill .. => 0x00
  | .pixel .. => 0x11
  | .showFrame .. => 0x12
  | .control .. => 0x21
  | .collect .. => 0x22
  | .enum .. => 0x31
  | .linkNotice .. => 0x32

/-- The attribute byte of a packet's kind word. -/
def Packet.attrs : Packet → BitVec 8
  | .fill a _ => a
  | .pixel a _ _ _ _ _ => a
  | .showFrame a _ => a
  | .control h _ _ => h.attrs
  | .collect a _ _ _ _ => a
  | .enum a _ => a
  | .linkNotice a _ _ _ => a

/-- Payload words in order (Tables 9-7, 9-8 and 9-9). -/
def Packet.payload : Packet → List Word
  | .fill _ payload => payload
  | .pixel _ frame line column count samples => frame :: line :: column :: count :: samples
  | .showFrame _ frame => [frame]
  | .control h code params =>
    [h.mode, h.value, h.sequence, code, h.disposition, h.accepts, h.refuses] ++ h.refusalMap
      ++ BitVec.ofNat 16 params.length :: params
  | .collect _ mode value capacity records =>
    mode :: value :: capacity :: BitVec.ofNat 16 records.length :: records
  | .enum _ next => [next]
  | .linkNotice _ origin cause number => [origin, cause, number]

/-- The words of a packet as they stand on the ring. -/
def Packet.words (p : Packet) : List Word := withCheck (kindWord p.attrs p.kind) p.payload

/-! ### Judging a run of words (R150, R153, R154) -/

/-- The parameter count and parameters that end a CONTROL payload, or nothing where they disagree with its length. -/
def parseParams (h : Header) (code : Word) : List Word → Option Packet
  | [] => none
  | count :: params =>
    if count.toNat ≤ Config.maxParams ∧ params.length = count.toNat then some (.control h code params) else none

/-- CONTROL: the refusal map is present in GROUP and ALL modes only (Tables 9-3 and 9-8). -/
def parseControl (attrs : BitVec 8) : List Word → Option Packet
  | mode :: value :: sequence :: code :: disposition :: accepts :: refuses :: rest =>
    if isMulticast mode then
      match rest with
      | m0 :: m1 :: m2 :: m3 :: tail =>
        parseParams ⟨attrs, mode, value, sequence, disposition, accepts, refuses, [m0, m1, m2, m3]⟩ code tail
      | _ => none
    else parseParams ⟨attrs, mode, value, sequence, disposition, accepts, refuses, []⟩ code rest
  | _ => none

/-- PIXEL: the length less 4 is 3 times the pixel count word (Table 9-3). -/
def parsePixel (attrs : BitVec 8) : List Word → Option Packet
  | frame :: line :: column :: count :: samples =>
    if samples.length = 3 * count.toNat then some (.pixel attrs frame line column count samples) else none
  | _ => none

/-- COLLECT: the length is 4 plus the used word (Table 9-3). -/
def parseCollect (attrs : BitVec 8) : List Word → Option Packet
  | mode :: value :: capacity :: used :: records =>
    if records.length = used.toNat then some (.collect attrs mode value capacity records) else none
  | _ => none

/-- SHOW: the length is 1 (Table 9-3). -/
def parseShow (attrs : BitVec 8) : List Word → Option Packet
  | [frame] => some (.showFrame attrs frame)
  | _ => none

/-- ENUM: the length is 1 (Table 9-3). -/
def parseEnum (attrs : BitVec 8) : List Word → Option Packet
  | [next] => some (.enum attrs next)
  | _ => none

/-- LINK NOTICE: the length is 3 (Table 9-3). -/
def parseLinkNotice (attrs : BitVec 8) : List Word → Option Packet
  | [origin, cause, number] => some (.linkNotice attrs origin cause number)
  | _ => none

/-- How the Ring Interface judges a packet received whole, before any block acts on it (R150). -/
inductive Judged where
  | damaged
  | unknown
  | wellFormed (p : Packet)
deriving DecidableEq, Repr

/-- A packet of a defined kind whose length disagrees with its content is damaged (R153). -/
def Judged.ofParsed : Option Packet → Judged
  | some p => .wellFormed p
  | none => .damaged

/-- The kind is judged after the check and the length (R154). -/
def judgeKind (kind : Word) (payload : List Word) : Judged :=
  let attrs := kindAttrs kind
  match kindCode kind with
  | 0x00 => .wellFormed (.fill attrs payload)
  | 0x11 => .ofParsed (parsePixel attrs payload)
  | 0x12 => .ofParsed (parseShow attrs payload)
  | 0x21 => .ofParsed (parseControl attrs payload)
  | 0x22 => .ofParsed (parseCollect attrs payload)
  | 0x31 => .ofParsed (parseEnum attrs payload)
  | 0x32 => .ofParsed (parseLinkNotice attrs payload)
  | _ => .unknown

/-- R150, R153, R154: a run of words between two markers is damaged, unknown or well-formed. -/
def judge : List Word → Judged
  | kind :: length :: rest =>
    match rest.reverse with
    | [] => .damaged
    | check :: reversed =>
      let payload := reversed.reverse
      if Config.maxPayload < payload.length then .damaged
      else if check ≠ crc (kind :: length :: payload) then .damaged
      else if length.toNat ≠ payload.length then .damaged
      else judgeKind kind payload
  | _ => .damaged

/-- How many entries each table has (Table 1-1). -/
def TableName.entries : TableName → Nat
  | .curve => 99
  | .gain => 3072
  | .profile => 16
  | .bands => 15
  | .window => 3
  | .timing => 5

/-! ### CONTROL commands (R106, Tables 6-1, 9-11 and 9-13) -/

/-- Command codes (Table 9-11). -/
def Command.code : Command → Word
  | .identify => 0x01#16
  | .setIdentity .. => 0x02#16
  | .writeTable .. => 0x10#16
  | .readTable .. => 0x11#16
  | .copyLive => 0x12#16
  | .commit .. => 0x13#16
  | .cancelCommit => 0x14#16
  | .storeTables => 0x20#16
  | .loadStored => 0x21#16
  | .readStatus => 0x30#16
  | .readTemperature => 0x31#16
  | .setState .. => 0x40#16
  | .setNotices .. => 0x41#16
  | .clearCounters => 0x42#16
  | .resetNode => 0x4F#16

/-- Parameters in order (Table 9-13). -/
def Command.params : Command → List Word
  | .setIdentity logicalId groups => [logicalId, groups]
  | .writeTable table start values => table :: start :: values
  | .readTable bank table start count => [bank, table, start, count]
  | .commit kind frame => [kind, frame]
  | .setState target pattern red green blue => [target, pattern, red, green, blue]
  | .setNotices mask => [mask]
  | .identify => []
  | .copyLive => []
  | .cancelCommit => []
  | .storeTables => []
  | .loadStored => []
  | .readStatus => []
  | .readTemperature => []
  | .clearCounters => []
  | .resetNode => []

/-- A command that carries no parameters. -/
def parseBare (c : Command) : List Word → Option Command
  | [] => some c
  | _ => none

/-- SET IDENTITY carries two parameters. -/
def parseSetIdentity : List Word → Option Command
  | [logicalId, groups] => some (.setIdentity logicalId groups)
  | _ => none

/-- WRITE TABLE carries 3 to 258 parameters (R12). -/
def parseWriteTable : List Word → Option Command
  | table :: start :: values =>
    if 1 ≤ values.length ∧ values.length ≤ Config.maxWrite then some (.writeTable table start values) else none
  | _ => none

/-- READ TABLE carries four parameters. -/
def parseReadTable : List Word → Option Command
  | [bank, table, start, count] => some (.readTable bank table start count)
  | _ => none

/-- COMMIT carries two parameters. -/
def parseCommit : List Word → Option Command
  | [kind, frame] => some (.commit kind frame)
  | _ => none

/-- SET STATE carries five parameters. -/
def parseSetState : List Word → Option Command
  | [target, pattern, red, green, blue] => some (.setState target pattern red green blue)
  | _ => none

/-- SET NOTICES carries one parameter. -/
def parseSetNotices : List Word → Option Command
  | [mask] => some (.setNotices mask)
  | _ => none

/-- R106: the command of a code and its parameters; nothing where the code is none of the fifteen or the parameter
count is not the one Table 6-1 gives. -/
def Command.parse (code : Word) (params : List Word) : Option Command :=
  match code.toNat with
  | 0x01 => parseBare .identify params
  | 0x02 => parseSetIdentity params
  | 0x10 => parseWriteTable params
  | 0x11 => parseReadTable params
  | 0x12 => parseBare .copyLive params
  | 0x13 => parseCommit params
  | 0x14 => parseBare .cancelCommit params
  | 0x20 => parseBare .storeTables params
  | 0x21 => parseBare .loadStored params
  | 0x30 => parseBare .readStatus params
  | 0x31 => parseBare .readTemperature params
  | 0x40 => parseSetState params
  | 0x41 => parseSetNotices params
  | 0x42 => parseBare .clearCounters params
  | 0x4F => parseBare .resetNode params
  | _ => none

/-! ### Rows and words -/

/-- The row of the opcode table for a command carried under a header. -/
def Command.row (h : Header) : Command → Instr
  | .identify => .identify h
  | .setIdentity logicalId groups => .setIdentity h logicalId groups
  | .writeTable table start values => .writeTable h table start values
  | .readTable bank table start count => .readTable h bank table start count
  | .copyLive => .copyLive h
  | .commit kind frame => .commit h kind frame
  | .cancelCommit => .cancelCommit h
  | .storeTables => .storeTables h
  | .loadStored => .loadStored h
  | .readStatus => .readStatus h
  | .readTemperature => .readTemperature h
  | .setState target pattern red green blue => .setState h target pattern red green blue
  | .setNotices mask => .setNotices h mask
  | .clearCounters => .clearCounters h
  | .resetNode => .resetNode h

/-- The row of the opcode table for a well-formed packet. -/
def Packet.row : Packet → Instr
  | .fill attrs payload => .fill attrs payload
  | .pixel attrs frame line column count samples => .pixel attrs frame line column count samples
  | .showFrame attrs frame => .showFrame attrs frame
  | .control h code params =>
    match Command.parse code params with
    | some c => c.row h
    | none => .unknownCommand h code params
  | .collect attrs mode value capacity records => .collect attrs mode value capacity records
  | .enum attrs next => .enum attrs next
  | .linkNotice attrs origin cause number => .linkNotice attrs origin cause number

/-- The row of the opcode table for a run of words received whole (with room in the send queue). -/
def rowOfWords (words : List Word) : Instr :=
  match judge words with
  | .damaged => .damagedPacket words
  | .unknown => .unknownPacket words
  | .wellFormed p => p.row

/-- A CONTROL packet with a command of Table 6-1. -/
def commandPacket (h : Header) (c : Command) : Packet := .control h c.code c.params

/-- The words on the ring that a packet row stands for; nothing for the rows that are no packet. -/
def Instr.words : Instr → Option (List Word)
  | .hardResetAsserted => none
  | .hardResetRelease => none
  | .lockGained => none
  | .lossOfLock => none
  | .linkNoticeTimerExpiry => none
  | .fill attrs payload => some (Packet.fill attrs payload).words
  | .pixel attrs frame line column count samples => some (Packet.pixel attrs frame line column count samples).words
  | .showFrame attrs frame => some (Packet.showFrame attrs frame).words
  | .collect attrs mode value capacity records => some (Packet.collect attrs mode value capacity records).words
  | .enum attrs next => some (Packet.enum attrs next).words
  | .linkNotice attrs origin cause number => some (Packet.linkNotice attrs origin cause number).words
  | .damagedPacket words => some words
  | .unknownPacket words => some words
  | .overrunPacket words => some words
  | .forwardPacket => none
  | .sendFill => none
  | .identify h => some (commandPacket h .identify).words
  | .setIdentity h logicalId groups => some (commandPacket h (.setIdentity logicalId groups)).words
  | .writeTable h table start values => some (commandPacket h (.writeTable table start values)).words
  | .readTable h bank table start count => some (commandPacket h (.readTable bank table start count)).words
  | .copyLive h => some (commandPacket h .copyLive).words
  | .commit h kind frame => some (commandPacket h (.commit kind frame)).words
  | .cancelCommit h => some (commandPacket h .cancelCommit).words
  | .storeTables h => some (commandPacket h .storeTables).words
  | .loadStored h => some (commandPacket h .loadStored).words
  | .readStatus h => some (commandPacket h .readStatus).words
  | .readTemperature h => some (commandPacket h .readTemperature).words
  | .setState h target pattern red green blue =>
    some (commandPacket h (.setState target pattern red green blue)).words
  | .setNotices h mask => some (commandPacket h (.setNotices mask)).words
  | .clearCounters h => some (commandPacket h .clearCounters).words
  | .resetNode h => some (commandPacket h .resetNode).words
  | .unknownCommand h code params => some (Packet.control h code params).words
  | .resetNodeTakesEffect => none
  | .holdTimerExpiry => none
  | .sampleTimerExpiry => none
  | .sensorAnswer _ => none
  | .answerLimitExpiry => none
  | .refreshBoundary => none
  | .eraseCompletion => none
  | .programCompletion _ => none
  | .verifyCompletion => none
  | .loadCompletion => none
  | .startupReadCompletion => none

/-- The command a table word spells. No row of spec/opcode_table.json gives bits (each is an event or a packet of
words, laid out in `judge` and `rowOfWords`), so no word spells one. -/
def decodeTableWord (_nbits _w : Nat) : Option Instr := none

end Sys2Proof
end

