-- ==== Sys2Proof/Machine/Tables.lean ====
section
/-! DEFINITION. The six calibration tables of one bank: their entries, ranges, factory defaults and commit
validation (Chapter 1, sections 1.2 and 1.5). -/

namespace Sys2Proof.Machine

/-- One complete set of the six calibration tables (R1). Each table is the list of its entries, as words (R2). -/
structure Bank where
  curve : List Word
  gain : List Word
  profile : List Word
  bands : List Word
  window : List Word
  timing : List Word
deriving DecidableEq, Repr

/-- The table of a name. -/
def Bank.table (b : Bank) : TableName → List Word
  | .curve => b.curve
  | .gain => b.gain
  | .profile => b.profile
  | .bands => b.bands
  | .window => b.window
  | .timing => b.timing

/-- The bank with one table replaced. -/
def Bank.setTable (b : Bank) (t : TableName) (entries : List Word) : Bank :=
  match t with
  | .curve => { b with curve := entries }
  | .gain => { b with gain := entries }
  | .profile => { b with profile := entries }
  | .bands => { b with bands := entries }
  | .window => { b with window := entries }
  | .timing => { b with timing := entries }

/-- The tables in the order validation and the check word take them (R15, R81). -/
def tableOrder : List TableName := [.curve, .gain, .profile, .bands, .window, .timing]

/-- Every table has the entries of Table 1-1. -/
def Bank.shaped (b : Bank) : Bool := tableOrder.all fun t => (b.table t).length == t.entries

/-! ### Ranges (R2 to R8) -/

/-- A word read unsigned lies in `lo..hi`. -/
def unsignedIn (lo hi : Nat) (w : Word) : Bool := decide (lo ≤ w.toNat) && decide (w.toNat ≤ hi)

/-- A word read as a two's-complement number lies in `lo..hi`. -/
def signedIn (lo hi : Int) (w : Word) : Bool := decide (lo ≤ w.toInt) && decide (w.toInt ≤ hi)

/-- Ranges of the PROFILE entries (Table 1-2). -/
def profileRange (i : Nat) (w : Word) : Bool :=
  if i % 4 = 3 then unsignedIn 0 3 w else unsignedIn 0 4096 w

/-- Ranges of the BANDS entries (Table 1-3). -/
def bandsRange (i : Nat) (w : Word) : Bool :=
  if i = 0 then unsignedIn 1 6 w
  else if i ≤ 5 then signedIn (-80) 250 w
  else if i = 6 then unsignedIn 1 30 w
  else if i ≤ 12 then unsignedIn 0 3 w
  else if i = 13 then signedIn (-80) 250 w
  else unsignedIn 2 40 w

/-- Ranges of the WINDOW entries (Table 1-4); the orientation is one of its two codes. -/
def windowRange (i : Nat) (w : Word) : Bool :=
  if i ≤ 1 then unsignedIn 0 4064 w else unsignedIn 0 1 w

/-- Ranges of the TIMING entries (Table 1-5); the start state is one of its two codes. -/
def timingRange (i : Nat) (w : Word) : Bool :=
  if i = 0 then unsignedIn 20 2000 w
  else if i = 1 then unsignedIn 0 60000 w
  else if i = 2 then unsignedIn 20 1000 w
  else if i = 3 then unsignedIn 0 5 w
  else unsignedIn 1 2 w

/-- R2: the word is in range for that index of the table. -/
def inRange (t : TableName) (i : Nat) (w : Word) : Bool :=
  decide (i < t.entries) &&
    match t with
    | .curve => true
    | .gain => unsignedIn 0 8191 w
    | .profile => profileRange i w
    | .bands => bandsRange i w
    | .window => windowRange i w
    | .timing => timingRange i w

/-! ### What the entries mean -/

/-- Knot `k` of a colour's curve (R3). -/
def Bank.knot (b : Bank) (colour k : Nat) : Nat := (b.curve.getD (colour * 33 + k) 0).toNat

/-- The gain of a colour at a row and column of the tile (R4). -/
def Bank.gainAt (b : Bank) (row column colour : Nat) : Nat :=
  (b.gain.getD ((row * 32 + column) * 3 + colour) 0).toNat

/-- The scale of a colour in a profile (R5). -/
def Bank.scale (b : Bank) (profile colour : Nat) : Nat := (b.profile.getD (4 * profile + colour) 0).toNat

/-- The refresh code of a profile (R5). -/
def Bank.refreshCode (b : Bank) (profile : Nat) : BitVec 2 :=
  (b.profile.getD (4 * profile + 3) 0).setWidth 2

/-- The number of bands in use (R6). -/
def Bank.bandCount (b : Bank) : Nat := (b.bands.getD 0 0).toNat

/-- Threshold Ti, for i from 1 to 5 (R6). -/
def Bank.threshold (b : Bank) (i : Nat) : Int := (b.bands.getD i 0).toInt

/-- The hysteresis H (R6). -/
def Bank.hysteresis (b : Bank) : Int := (b.bands.getD 6 0).toNat

/-- Map i: the profile that is active while band i is applied (R6). -/
def Bank.bandMap (b : Bank) (i : Nat) : Nat := (b.bands.getD (7 + i) 0).toNat

/-- The cutoff temperature (R6). -/
def Bank.cutoff (b : Bank) : Int := (b.bands.getD 13 0).toInt

/-- The cutoff hysteresis (R6). -/
def Bank.cutoffHysteresis (b : Bank) : Int := (b.bands.getD 14 0).toNat

/-- Origin column (R7). -/
def Bank.originColumn (b : Bank) : Nat := (b.window.getD 0 0).toNat

/-- Origin row (R7). -/
def Bank.originRow (b : Bank) : Nat := (b.window.getD 1 0).toNat

/-- The orientation is ROTATED (R7, Table 9-18). -/
def Bank.rotated (b : Bank) : Bool := b.window.getD 2 0 == 1#16

/-- Hold time in milliseconds (R8). -/
def Bank.holdTime (b : Bank) : Nat := (b.timing.getD 0 0).toNat

/-- Dark delay in milliseconds; 0 means never DARK (R8). -/
def Bank.darkDelay (b : Bank) : Nat := (b.timing.getD 1 0).toNat

/-- Sample interval in milliseconds (R8). -/
def Bank.sampleInterval (b : Bank) : Nat := (b.timing.getD 2 0).toNat

/-- The fallback band (R8). -/
def Bank.fallbackBand (b : Bank) : Nat := (b.timing.getD 3 0).toNat

/-- The start state is ACTIVE, not STANDBY (R8, Table 9-18). -/
def Bank.startsActive (b : Bank) : Bool := b.timing.getD 4 0 == 2#16

/-! ### Factory defaults (R3 to R8) -/

/-- The 33 knots of each factory curve: the lesser of 2048 k and 65535 (R3). -/
def factoryKnots : List Word := (List.range 33).map fun k => BitVec.ofNat 16 (min (2048 * k) 65535)

/-- The factory defaults of section 1.2. -/
def factory : Bank where
  curve := factoryKnots ++ factoryKnots ++ factoryKnots
  gain := List.replicate 3072 4096#16
  profile := [4096#16, 4096#16, 4096#16, 1#16, 4096#16, 4096#16, 4096#16, 1#16,
              4096#16, 4096#16, 4096#16, 1#16, 4096#16, 4096#16, 4096#16, 1#16]
  bands := [1#16, 0#16, 0#16, 0#16, 0#16, 0#16, 4#16, 0#16, 0#16, 0#16, 0#16, 0#16, 0#16, 170#16, 20#16]
  window := [0#16, 0#16, 0#16]
  timing := [200#16, 5000#16, 100#16, 0#16, 1#16]

/-! ### Commit validation (R15, R16) -/

/-- Where validation failed: a table and an entry index (R15). -/
structure FailurePoint where
  table : TableName
  index : Nat
deriving DecidableEq, Repr

/-- The first entry out of range, in index order, of entries that begin at index `i`. -/
def rangeFailure (t : TableName) : Nat → List Word → Option Nat
  | _, [] => none
  | i, w :: ws => if inRange t i w then rangeFailure t (i + 1) ws else some i

/-- R16, CURVE: the first knot smaller than its predecessor, by colour and then by knot. -/
def curveFailure (b : Bank) : Option Nat :=
  ((List.range 3).flatMap fun colour => (List.range 32).map fun k => (colour, k + 1)).findSome? fun (colour, k) =>
    if b.knot colour k < b.knot colour (k - 1) then some (colour * 33 + k) else none

/-- R16, BANDS, the thresholds: the first pair T(i), T(i+1) that is not more than H apart, reported at i + 1. -/
def thresholdFailure (b : Bank) : Option Nat :=
  (List.range (b.bandCount - 2)).findSome? fun j =>
    if b.threshold (j + 2) - b.threshold (j + 1) > b.hysteresis then none else some (j + 2)

/-- R16, BANDS: the thresholds, then the cutoff above the top threshold plus H, then the cutoff hysteresis. -/
def bandsFailure (b : Bank) : Option Nat :=
  match thresholdFailure b with
  | some i => some i
  | none =>
    if 1 < b.bandCount ∧ ¬ b.cutoff > b.threshold (b.bandCount - 1) + b.hysteresis then some 13
    else if b.cutoff - b.cutoffHysteresis < -80 then some 14
    else none

/-- R16, TIMING: the fallback band is less than the BANDS count of the same set of tables. -/
def timingFailure (b : Bank) : Option Nat := if b.fallbackBand < b.bandCount then none else some 3

/-- R16: the first relation of a table that fails. -/
def relationFailure (b : Bank) : TableName → Option Nat
  | .curve => curveFailure b
  | .gain => none
  | .profile => none
  | .bands => bandsFailure b
  | .window => none
  | .timing => timingFailure b

/-- Within a table, ranges first and then relations (R15). -/
def tableFailure (b : Bank) (t : TableName) : Option Nat :=
  match rangeFailure t 0 (b.table t) with
  | some i => some i
  | none => relationFailure b t

/-- R15: commit validation of a complete set of tables: the first failure found, or none. -/
def validate (b : Bank) : Option FailurePoint :=
  tableOrder.findSome? fun t => (tableFailure b t).map fun i => ⟨t, i⟩

/-! ### Runs of entries (R12, R13) -/

/-- The entries with `values` written from `start` on (R12). -/
def writeRun (entries : List Word) (start : Nat) : List Word → List Word
  | [] => entries
  | v :: vs => writeRun (entries.set start v) (start + 1) vs

/-- The `count` entries from `start` on (R13). -/
def readRun (entries : List Word) (start count : Nat) : List Word := (entries.drop start).take count

/-- Every value is in range for the index it would be written to (R12, step 4). -/
def runInRange (t : TableName) (start : Nat) (values : List Word) : Bool :=
  (rangeFailure t start values).isNone

end Sys2Proof.Machine
end

