-- ==== Sys2Proof/Machine/Blocks.lean ====
section
/-! DEFINITION. What each block of the DJ416 holds, block by block as Table 0-1 lists them. -/

namespace Sys2Proof.Machine

/-! ### Ring Interface (Chapter 9) -/

/-- Link state (R145). -/
inductive Link where
  | locked | unlocked
deriving DecidableEq, Repr

/-- The loss record when present: LOST notices sent since the last loss, saturating, and the next repeat number,
wrapping (R145). -/
structure LossRecord where
  count : Word
  nextRepeat : Word
deriving DecidableEq, Repr

/-- A packet in the send queue, with the words it will be sent with. `own` marks a LINK NOTICE this node originated,
which does not count toward the queue's limit (R151). `resets` marks the packet of an accepted RESET NODE, after
which the reset takes effect (R118). -/
structure SendEntry where
  words : List Word
  own : Bool
  resets : Bool
deriving DecidableEq, Repr

/-- How far an accepted RESET NODE has come: none outstanding, answered in a packet still in the send queue, or its
packet has left the node and the reset is due (R118, R163). -/
inductive ResetPhase where
  | idle | answered | due
deriving DecidableEq, Repr

/-- What waits for a RESET NODE to take effect: a packet received whole, or a LINK NOTICE of the node's own whose place
is behind such packets (R146, R149, R163). -/
inductive Waiting where
  | packet (words : List Word)
  | notice (words : List Word)
deriving DecidableEq, Repr

/-- The Ring Interface. The holding buffer is `arriving`, the words of a packet not yet received whole, and the packets
of `held`, received whole, whose handling waits for a RESET NODE to take effect (R150, R163). `standing` is set at a loss
of lock: a packet may stand received whole in the holding buffer, whose handling is still to come (R146, R158). -/
structure Ring where
  link : Link
  standing : Bool
  loss : Option LossRecord
  noticeTimer : Option Nat
  arriving : List Word
  held : List Waiting
  sendQueue : List SendEntry
  resetPhase : ResetPhase
  damagedPackets : Word
  unknownPackets : Word
  linkLosses : Word
deriving DecidableEq, Repr

/-! ### Address Matcher (Chapter 8) -/

/-- The node's identity (R135). Bit g of `groups` is group g. -/
structure Identity where
  position : Option (Fin 64)
  logicalId : Option (Fin 1024)
  groups : Word
deriving DecidableEq, Repr

/-! ### Reply records (Chapter 7) -/

/-- The nine notice kinds (Table 7-3). -/
inductive NoticeKind where
  | bandChanged | cutoffEntered | cutoffLeft | sensorFault | holdEntered | darkEntered | frameSkipped
  | commitApplied | linkRestored
deriving DecidableEq, Repr

/-- The six kinds of command reply (R121). -/
inductive ReplyKind where
  | tableData | status | temperature | identity | storeResult | loadResult
deriving DecidableEq, Repr

/-- What a record carries under its header: a command reply's body words, the sequence and code word first, or a
notice's kind, occurrence count and latest detail, none for an absent detail (R121, R159). -/
inductive Content where
  | reply (kind : ReplyKind) (body : List Word)
  | notice (kind : NoticeKind) (count : Word) (detail : Option Word)
deriving DecidableEq, Repr

/-- A reply record (R121). -/
structure Record where
  position : Option (Fin 64)
  logicalId : Option (Fin 1024)
  replay : Bool
  content : Content
deriving DecidableEq, Repr

/-- An entry of the Reply Queue: a record, or the reservation of a STORE TABLES or LOAD STORED, which keeps the
command's sequence and code word and the identity at its acceptance (R119, R122). -/
inductive Entry where
  | record (r : Record)
  | reservation (sequenceAndCode : Word) (position : Option (Fin 64)) (logicalId : Option (Fin 1024))
deriving DecidableEq, Repr

/-- A kind in the notice backlog with its held count and detail (R127). -/
structure Held where
  kind : NoticeKind
  count : Word
  detail : Option Word
deriving DecidableEq, Repr

/-- The Reply Queue (R119): entries oldest first, the notice backlog in order of first occurrence, and the notice
mask, bit k for notice kind k. -/
structure ReplyQueue where
  entries : List Entry
  backlog : List Held
  mask : BitVec 9
deriving DecidableEq, Repr

/-! ### Command Unit (Chapter 6) -/

/-- The Command Unit (R96). -/
structure CommandUnit where
  unicastLast : Option (BitVec 8)
  multicastLast : Option (BitVec 8)
  replayCache : Option Record
  sequenceRefusals : Word
deriving DecidableEq, Repr

/-! ### Table Banks (Chapter 1) -/

/-- What a commit waits for (R18). -/
inductive CommitTarget where
  | next
  | frame (f : Word)
deriving DecidableEq, Repr

/-- The commit record: the target is absent in NONE and kept from PENDING to DEFERRED (R18). -/
inductive CommitState where
  | none
  | pending (target : CommitTarget)
  | deferred (target : CommitTarget)
deriving DecidableEq, Repr

/-- The Table Banks (R1, R9, R17, R18). Bit i of `dirty` is table i. -/
structure Banks where
  staged : Bank
  live : Bank
  dirty : BitVec 6
  commit : CommitState
  lastFailure : Option FailurePoint
deriving DecidableEq, Repr

/-! ### Pixel Intake (Chapter 2) -/

/-- Pixel Intake's counters (R43). -/
structure Intake where
  stalePackets : Word
  abandonedFrames : Word
deriving DecidableEq, Repr

/-! ### Frame Buffers (Chapter 3) -/

/-- Buffer roles (R45). -/
inductive Role where
  | free | filling | pending | shown
deriving DecidableEq, Repr

/-- A frame buffer: its role, its tag or none for untagged, and its drive levels, that of a colour at row r and
column c at index (r * 32 + c) * 3 + colour (R45). -/
structure Buffer where
  role : Role
  tag : Option Word
  content : List Word
deriving DecidableEq, Repr

/-- Presentation state (R54). -/
inductive Presentation where
  | live | hold | dark
deriving DecidableEq, Repr

/-- The Frame Buffers (R45, R48, R54, R65). A timer is none when stopped and otherwise holds the time it was last
started with. -/
structure Frames where
  buffer0 : Buffer
  buffer1 : Buffer
  buffer2 : Buffer
  presentation : Presentation
  holdTimer : Option Nat
  lastShow : Option Word
  skippedFrames : Word
  unmatchedShows : Word
deriving DecidableEq, Repr

/-! ### Scan Output (Chapter 3) -/

/-- A test pattern (R63). -/
inductive Pattern where
  | solid (red green blue : Word)
  | columnRamp
  | checker
deriving DecidableEq, Repr

/-- What the outputs carry in the cycle in progress (R61, R62). -/
inductive Source where
  | dark
  | pattern (p : Pattern)
  | picture
deriving DecidableEq, Repr

/-- The Scan Output (R58, R61, R64): the refresh code in use, the code the cycle in progress began with, the output
source and the pattern selection. -/
structure Scan where
  refreshCode : BitVec 2
  cycleCode : BitVec 2
  source : Source
  pattern : Option Pattern
deriving DecidableEq, Repr

/-! ### Thermal Monitor (Chapter 4) -/

/-- Sensor state (R67). -/
inductive Sensor where
  | ok | fault
deriving DecidableEq, Repr

/-- Cutoff state (R67). -/
inductive Cutoff where
  | clear | cut
deriving DecidableEq, Repr

/-- The Thermal Monitor (Table 4-1). The request is none, or outstanding with its answer limit. -/
structure Thermal where
  reading : Option Int
  sensor : Sensor
  applied : Nat
  pending : Option Nat
  cutoff : Cutoff
  sampleTimer : Option Nat
  request : Option Nat
deriving DecidableEq, Repr

/-! ### Table Store (Chapter 5) -/

/-- The two images (R81). -/
inductive ImageId where
  | image0 | image1
deriving DecidableEq, Repr

/-- The non-volatile memory of an image (R81, R86 to R88): erased or part-way through ERASE or PROGRAM; programmed
whole but without generation and check word; or holding a generation, six tables and a check word. -/
inductive Image where
  | unwritten
  | programmed (tables : Bank)
  | written (generation : BitVec 32) (tables : Bank) (check : Word)
deriving DecidableEq, Repr

/-- An image record: a validity, with the generation of a VALID one (R81). -/
inductive ImageRecord where
  | unread
  | invalid
  | valid (generation : BitVec 32)
deriving DecidableEq, Repr

/-- Phases of a store (R83). -/
inductive Phase where
  | erase | program | verify
deriving DecidableEq, Repr

/-- Store-unit states (R83): STORING with its phase, target and new generation, READING with its source (R85, R90). -/
inductive StoreUnit where
  | startupRead
  | idle
  | storing (phase : Phase) (target : ImageId) (generation : BitVec 32)
  | reading (source : Option ImageId)
deriving DecidableEq, Repr

/-- The Table Store (R81, R83, R92). -/
structure Store where
  image0 : Image
  image1 : Image
  record0 : ImageRecord
  record1 : ImageRecord
  unit : StoreUnit
  defaultsInUse : Bool
deriving DecidableEq, Repr

/-! ### Node Controller (Chapter 10) -/

/-- Node states (R160). -/
inductive NodeState where
  | loading | standby | active | test
deriving DecidableEq, Repr

/-! ### Outputs -/

/-- What the part puts on its ring output and its sensor line: a packet's words, or a conversion request. -/
inductive Output where
  | packet (words : List Word)
  | conversionRequest
deriving DecidableEq, Repr

end Sys2Proof.Machine
end

