-- ==== Sys2Proof/Machine/ResetValues.lean ====
section
/-! DEFINITION. The values the blocks take at a reset (Table 10-3). -/

namespace Sys2Proof.Machine

/-- R145, R157, R158: after a hard reset. -/
def resetRing : Ring where
  link := .unlocked
  standing := false
  loss := none
  noticeTimer := none
  arriving := []
  held := []
  sendQueue := []
  resetPhase := .idle
  damagedPackets := 0
  unknownPackets := 0
  linkLosses := 0

/-- R28: after either reset, around the banks, which the start-up read sets. -/
def resetBanks (staged live : Bank) : Banks := ⟨staged, live, 0, .none, none⟩

/-- R81, R83, R92: after either reset, around the images, whose memory a reset does not change. -/
def resetStore (image0 image1 : Image) : Store := ⟨image0, image1, .unread, .unread, .startupRead, false⟩

/-- R135: after a hard reset. -/
def resetIdentity : Identity := ⟨none, none, 0⟩

/-- R96: after either reset. -/
def resetCommandUnit : CommandUnit := ⟨none, none, none, 0⟩

/-- R119: after either reset, every kind enabled except FRAME SKIPPED, which is bit 6. -/
def resetQueue : ReplyQueue := ⟨[], [], 0x1BF#9⟩

/-- R43: after either reset. -/
def resetIntake : Intake := ⟨0, 0⟩

/-- A black content (R46). -/
def black : List Word := List.replicate 3072 0#16

/-- R46, R48, R54, R65: after either reset. -/
def resetFrames : Frames where
  buffer0 := ⟨.shown, none, black⟩
  buffer1 := ⟨.filling, none, black⟩
  buffer2 := ⟨.free, none, black⟩
  presentation := .live
  holdTimer := none
  lastShow := none
  skippedFrames := 0
  unmatchedShows := 0

/-- R58, R62, R64: code 1, no pattern, dark because the node is LOADING. -/
def resetScan : Scan := ⟨1, 1, .dark, none⟩

/-- R67, Table 4-1: after either reset. -/
def resetThermal : Thermal := ⟨none, .ok, 0, none, .clear, none, none⟩

end Sys2Proof.Machine
end

