-- ==== Sys2Proof/Machine/State.lean ====
section
/-! DEFINITION. The state of the DJ416: the blocks of Table 0-1, and the model's own fields, the queue of commands
that wait and the record of what the part has put out. -/

namespace Sys2Proof.Machine

/-- The DJ416. `pending` and `out` are the model's own: the commands that wait, first in first out, and what the part
has put on the ring output and the sensor line, oldest first. `resetPin` is the hard reset input, true while
asserted. -/
structure State where
  pending : List Instr
  out : List Output
  resetPin : Bool
  ring : Ring
  address : Identity
  commands : CommandUnit
  queue : ReplyQueue
  banks : Banks
  intake : Intake
  frames : Frames
  scan : Scan
  thermal : Thermal
  store : Store
  node : NodeState
deriving DecidableEq, Repr

/-- Faults: none. No rule of the manual stops the part, and no meaning raises one. -/
inductive Fault where
deriving DecidableEq, Repr

/-- Refusals: only the name of a row that has no meaning, raised by `exec`'s arm for it (safe: nothing is claimed of
that row). Every row has its meaning, so no arm raises it. -/
inductive Refusal where
  /-- The row has no meaning in the model: raised by its arm of `exec` alone, and safe. -/
  | notModelled (mnemonic : String)
deriving DecidableEq, Repr

/-- The outcome of a command. -/
abbrev Result := Host.Outcome State Fault Refusal

/-- The DJ416 right after power-up, which acts as an assertion of the hard reset, has ended (R162): every block at
its value of Table 10-3, the pin released, the start-up read begun. The manual leaves two things open, and
notes/assumptions names those taken here: both banks until the start-up read completes hold the factory defaults,
both images of the non-volatile memory hold nothing written. -/
def State.reset : State where
  pending := []
  out := []
  resetPin := false
  ring := resetRing
  address := resetIdentity
  commands := resetCommandUnit
  queue := resetQueue
  banks := resetBanks factory factory
  intake := resetIntake
  frames := resetFrames
  scan := resetScan
  thermal := resetThermal
  store := resetStore .unwritten .unwritten
  node := .loading

end Sys2Proof.Machine
end

