-- ==== Sys2Proof/Machine/Operands.lean ====
section
/-! DEFINITION. How the words of a packet or a record are read and written: the code lists, the encodings of empty
values and the number forms (R159, Tables 9-10 to 9-19), and the serial order of frame numbers (Table 0-3). -/

namespace Sys2Proof.Machine

/-! ### Numbers -/

/-- The sequence: the remainder of the word's value divided by 256 (R101). -/
def sequenceOf (w : Word) : BitVec 8 := w.setWidth 8

/-- The word that opens a command reply's body: bits 7 to 0 the sequence, bits 15 to 8 the command code (Table 9-14). -/
def sequenceAndCode (sequence : BitVec 8) (code : Word) : Word :=
  BitVec.ofNat 16 (code.toNat % 256 * 256 + sequence.toNat)

/-- Table 0-3: frame number `n` is later than `f`. -/
def isLater (n f : Word) : Bool := decide (1 ≤ (n - f).toNat) && decide ((n - f).toNat ≤ 32767)

/-- R25: a SHOW of frame `k` meets a target of frame `f`: equal or later. -/
def isDue (k f : Word) : Bool := decide ((k - f).toNat ≤ 32767)

/-- The high and the low word of a generation (Table 9-15). -/
def generationWords (g : BitVec 32) : List Word := [g.extractLsb' 16 16, g.setWidth 16]

/-! ### Empty values (Table 9-19) -/

/-- A position, or NONE. -/
def positionWord : Option (Fin 64) → Word
  | some p => BitVec.ofNat 16 p.val
  | none => Config.noneWord

/-- A logical id, or NONE. -/
def logicalIdWord : Option (Fin 1024) → Word
  | some i => BitVec.ofNat 16 i.val
  | none => Config.noneWord

/-- A last-accepted sequence, or NONE. -/
def lastSequenceWord : Option (BitVec 8) → Word
  | some q => q.setWidth 16
  | none => Config.noneWord

/-- A band, or absent. -/
def bandWord : Option Nat → Word
  | some b => BitVec.ofNat 16 b
  | none => Config.noneWord

/-- A temperature reading in two's complement, or absent. -/
def readingWord : Option Int → Word
  | some t => BitVec.ofInt 16 t
  | none => Config.noReading

/-- A present flag and a value, 0 in both words when absent. -/
def flaggedWords : Option Word → List Word
  | some w => [1#16, w]
  | none => [0#16, 0#16]

/-! ### Code lists (Tables 9-11 to 9-18) -/

/-- Table codes (Table 9-18). -/
def tableCode : TableName → Word
  | .curve => 0#16
  | .gain => 1#16
  | .profile => 2#16
  | .bands => 3#16
  | .window => 4#16
  | .timing => 5#16

/-- The table of a table code, if it is one of the six. -/
def tableOf (w : Word) : Option TableName :=
  match w.toNat with
  | 0 => some .curve
  | 1 => some .gain
  | 2 => some .profile
  | 3 => some .bands
  | 4 => some .window
  | 5 => some .timing
  | _ => none

/-- The bank a bank code names: false STAGED, true LIVE (Table 9-13). -/
def bankIsLive (w : Word) : Option Bool :=
  match w.toNat with
  | 0 => some false
  | 1 => some true
  | _ => none

/-- Target kinds of COMMIT (Table 9-13). -/
inductive TargetKind where
  | next | frame | immediate
deriving DecidableEq, Repr

/-- The target kind of a word. -/
def targetKindOf (w : Word) : Option TargetKind :=
  match w.toNat with
  | 1 => some .next
  | 2 => some .frame
  | 3 => some .immediate
  | _ => none

/-- The target state of SET STATE: STANDBY, ACTIVE or TEST (Table 9-13). -/
def targetStateOf (w : Word) : Option NodeState :=
  match w.toNat with
  | 1 => some .standby
  | 2 => some .active
  | 3 => some .test
  | _ => none

/-- The pattern SET STATE names, with the three levels that SOLID takes (R165). -/
def patternOf (pattern red green blue : Word) : Option Pattern :=
  match pattern.toNat with
  | 1 => some (.solid red green blue)
  | 2 => some .columnRamp
  | 3 => some .checker
  | _ => none

/-- The logical id SET IDENTITY gives: 0 to 1023, or 65535 for NONE; anything else is no logical id (R141). -/
def logicalIdOf (w : Word) : Option (Option (Fin 1024)) :=
  if h : w.toNat < 1024 then some (some ⟨w.toNat, h⟩)
  else if w = Config.noneWord then some none
  else none

/-- Node states. -/
def nodeCode : NodeState → Word
  | .loading => 0#16
  | .standby => 1#16
  | .active => 2#16
  | .test => 3#16

/-- Presentation states. -/
def presentationCode : Presentation → Word
  | .live => 0#16
  | .hold => 1#16
  | .dark => 2#16

/-- Sensor states. -/
def sensorCode : Sensor → Word
  | .ok => 0#16
  | .fault => 1#16

/-- Cutoff states. -/
def cutoffCode : Cutoff → Word
  | .clear => 0#16
  | .cut => 1#16

/-- Commit states. -/
def commitCode : CommitState → Word
  | .none => 0#16
  | .pending _ => 1#16
  | .deferred _ => 2#16

/-- Commit target kind and frame of the STATUS body: 0 absent, 1 NEXT, 2 FRAME, and the frame or 0 (Table 9-17). -/
def targetWords : CommitState → List Word
  | .none => [0#16, 0#16]
  | .pending .next => [1#16, 0#16]
  | .pending (.frame f) => [2#16, f]
  | .deferred .next => [1#16, 0#16]
  | .deferred (.frame f) => [2#16, f]

/-- Store-unit state and phase of the STATUS body (Tables 9-17 and 9-18). -/
def unitWords : StoreUnit → List Word
  | .startupRead => [0#16, 0#16]
  | .idle => [1#16, 0#16]
  | .storing .erase _ _ => [2#16, 1#16]
  | .storing .program _ _ => [2#16, 2#16]
  | .storing .verify _ _ => [2#16, 3#16]
  | .reading _ => [3#16, 0#16]

/-- An image record of the STATUS body: validity, and the generation or 0 in both words (Tables 9-17 to 9-19). -/
def imageRecordWords : ImageRecord → List Word
  | .unread => [0#16, 0#16, 0#16]
  | .invalid => [1#16, 0#16, 0#16]
  | .valid g => 2#16 :: generationWords g

/-- The number of an image. -/
def imageCode : ImageId → Word
  | .image0 => 0#16
  | .image1 => 1#16

/-- The last validation failure, or absent in both words (Table 9-19). -/
def failureWords : Option FailurePoint → List Word
  | some p => [tableCode p.table, BitVec.ofNat 16 p.index]
  | none => [Config.noneWord, Config.noneWord]

/-- Reply kinds (Table 9-14). -/
def replyCode : ReplyKind → Nat
  | .tableData => 1
  | .status => 2
  | .temperature => 3
  | .identity => 4
  | .storeResult => 5
  | .loadResult => 6

/-- The record kind of a NOTICE (Table 9-14). -/
def noticeRecordCode : Nat := 7

/-- Dispositions (Table 9-12) a node writes. -/
inductive Disposition where
  | accepted | duplicate | busy | sequence | state | invalid | locked | unknown | conflict
deriving DecidableEq, Repr

/-- Disposition codes (Table 9-12). -/
def dispositionCode : Disposition → Word
  | .accepted => 1#16
  | .duplicate => 2#16
  | .busy => 3#16
  | .sequence => 4#16
  | .state => 5#16
  | .invalid => 6#16
  | .locked => 7#16
  | .unknown => 8#16
  | .conflict => 9#16

/-- Cause of a LINK NOTICE (Table 9-7): LOST or RESTORED. -/
def lostCause : Word := 1#16

/-- RESTORED (Table 9-7). -/
def restoredCause : Word := 2#16

/-- Cause of a SENSOR FAULT: NO ANSWER (Table 9-16). -/
def noAnswerCause : Word := 1#16

/-- OUT OF RANGE (Table 9-16). -/
def outOfRangeCause : Word := 2#16

end Sys2Proof.Machine
end

