-- ==== Sys2Proof/Machine/Flags.lean ====
section
/-! DEFINITION. The sets of flags the part keeps as words and the counters it saturates: the dirty set, the notice
mask, the group set, the refusal map (R9, R124, R135, R113, R159), and the eight counters (R171). -/

namespace Sys2Proof.Machine

/-- R171: one more, staying at 65535. -/
def saturatingInc (w : Word) : Word := if w = 0xFFFF#16 then w else w + 1

/-! ### The dirty set (R9): bit i is table i -/

/-- The bit of a table. -/
def tableBit : TableName → Nat
  | .curve => 0
  | .gain => 1
  | .profile => 2
  | .bands => 3
  | .window => 4
  | .timing => 5

/-- The set with a table added. -/
def withDirty (d : BitVec 6) (t : TableName) : BitVec 6 := d ||| (1#6 <<< tableBit t)

/-- The table is in the set. -/
def isDirty (d : BitVec 6) (t : TableName) : Bool := d.getLsbD (tableBit t)

/-- All six tables. -/
def allDirty : BitVec 6 := 0x3F#6

/-- The set as the word of the status record and of COMMIT APPLIED. -/
def dirtyWord (d : BitVec 6) : Word := d.setWidth 16

/-! ### The notice mask (R124): bit k is notice kind k -/

/-- Notice kind codes (Table 9-16). -/
def noticeCode : NoticeKind → Nat
  | .bandChanged => 0
  | .cutoffEntered => 1
  | .cutoffLeft => 2
  | .sensorFault => 3
  | .holdEntered => 4
  | .darkEntered => 5
  | .frameSkipped => 6
  | .commitApplied => 7
  | .linkRestored => 8

/-- The kind is enabled in the mask. -/
def isEnabled (mask : BitVec 9) (k : NoticeKind) : Bool := mask.getLsbD (noticeCode k)

/-- R129: a mask word with no flag outside the nine kinds, whose bits 15 to 9 are 0. -/
def maskOf (w : Word) : Option (BitVec 9) := if w.toNat < 512 then some (w.setWidth 9) else none

/-! ### The group set (R135): bit g is group g -/

/-- Group `v` is in the set; no word above 15 names a group (R138). -/
def inGroup (groups v : Word) : Bool := decide (v.toNat < 16) && groups.getLsbD v.toNat

/-! ### The refusal map (R113): bit b of word w is position 16 w + b -/

/-- The map with the flag of position `p` set. -/
def markPosition (map : List Word) (p : Nat) : List Word :=
  map.modify (p / 16) fun w => w ||| (1#16 <<< (p % 16))

end Sys2Proof.Machine
end

