-- ==== Sys2Proof/Machine/Ops.lean ====
section
/-! DEFINITION. The operations that several blocks share: the send queue and the ring output (R149, R151), raising a
notice and the rest of the Reply Queue (R120 to R131), the active profile (R76), forcing the outputs dark (R62), and
the store unit's and the banks' answers that other blocks ask for (R10, R27). -/

namespace Sys2Proof.Machine

/-! ### Reply records (R121, Table 9-14) -/

/-- The body words of a record. Bit 15 of a notice's kind word says that its detail is absent (R159). -/
def Content.body : Content → List Word
  | .reply _ body => body
  | .notice k count (some detail) => [BitVec.ofNat 16 (noticeCode k), count, detail]
  | .notice k count none => [BitVec.ofNat 16 (noticeCode k + 32768), count, 0#16]

/-- The record kind code of a record. -/
def Content.code : Content → Nat
  | .reply kind _ => replyCode kind
  | .notice .. => noticeRecordCode

/-- A record as words: the 4-word header and the body. -/
def Record.words (r : Record) : List Word :=
  [positionWord r.position, logicalIdWord r.logicalId,
    BitVec.ofNat 16 (r.content.code + if r.replay then 32768 else 0),
    BitVec.ofNat 16 r.content.body.length] ++ r.content.body

/-- A command reply made now: its header carries the identity as it stands (R121). -/
def Identity.reply (id : Identity) (kind : ReplyKind) (body : List Word) : Record :=
  ⟨id.position, id.logicalId, false, .reply kind body⟩

/-- A notice record made now. -/
def Identity.notice (id : Identity) (k : NoticeKind) (count : Word) (detail : Option Word) : Record :=
  ⟨id.position, id.logicalId, false, .notice k count detail⟩

/-! ### The Reply Queue (Chapter 7) -/

/-- The notice kind of an entry that is a NOTICE record. -/
def Entry.noticeKind : Entry → Option NoticeKind
  | .record ⟨_, _, _, .notice k _ _⟩ => some k
  | .record ⟨_, _, _, .reply _ _⟩ => none
  | .reservation .. => none

/-- The entry is a reservation. -/
def Entry.isReservation : Entry → Bool
  | .reservation .. => true
  | .record _ => false

/-- The entry is the NOTICE record of kind `k`. -/
def Entry.isNoticeOf (k : NoticeKind) (e : Entry) : Bool := e.noticeKind == some k

/-- How many notice records a list holds. -/
def noticeCount (es : List Entry) : Nat := es.countP fun e => e.noticeKind.isSome

/-- How many reservations a list holds. -/
def reservationCount (es : List Entry) : Nat := es.countP Entry.isReservation

/-- Fewer than 12 entries, counting reservations and notices (R105, R108). -/
def hasFreeEntry (es : List Entry) : Bool := decide (es.length < Config.maxEntries)

/-- Room for a notice record: fewer than 12 entries and fewer than 4 notice records (R125). -/
def hasNoticeRoom (es : List Entry) : Bool := hasFreeEntry es && decide (noticeCount es < Config.maxNotices)

/-- R125, case 1: an occurrence counted into the record of its kind. -/
def countInto (k : NoticeKind) (detail : Option Word) : Entry → Entry
  | .record ⟨p, l, replay, .notice k' count d⟩ =>
    if k' = k then .record ⟨p, l, replay, .notice k' (saturatingInc count) detail⟩
    else .record ⟨p, l, replay, .notice k' count d⟩
  | .record ⟨p, l, replay, .reply kind body⟩ => .record ⟨p, l, replay, .reply kind body⟩
  | .reservation q p l => .reservation q p l

/-- R125, case 2: an occurrence counted into the backlog. -/
def countIntoHeld (k : NoticeKind) (detail : Option Word) (h : Held) : Held :=
  if h.kind = k then ⟨h.kind, saturatingInc h.count, detail⟩ else h

/-- R124, R125: an occurrence of notice kind `k`; the first case that applies. -/
def ReplyQueue.raise (q : ReplyQueue) (id : Identity) (k : NoticeKind) (detail : Option Word) : ReplyQueue :=
  if !isEnabled q.mask k then q
  else if q.entries.any (Entry.isNoticeOf k) then { q with entries := q.entries.map (countInto k detail) }
  else if q.backlog.any (fun h => h.kind == k) then { q with backlog := q.backlog.map (countIntoHeld k detail) }
  else if hasNoticeRoom q.entries then { q with entries := q.entries ++ [.record (id.notice k 1#16 detail)] }
  else { q with backlog := q.backlog ++ [⟨k, 1#16, detail⟩] }

/-- R128: kinds leave the head of the backlog and enter the list at its tail while room lasts. -/
def admitHeld (id : Identity) : List Held → List Entry → List Entry × List Held
  | [], es => (es, [])
  | h :: hs, es =>
    if hasNoticeRoom es then admitHeld id hs (es ++ [.record (id.notice h.kind h.count h.detail)])
    else (es, h :: hs)

/-- R131: records drained from the head of the list while they fit, with admission after each. The queue that is left
and the words appended. `fuel` bounds the entries drained: each is one of the list or the backlog as it stood. -/
def drainWith (id : Identity) : Nat → Nat → ReplyQueue → ReplyQueue × List Word
  | 0, _, q => (q, [])
  | fuel + 1, room, q =>
    match q.entries with
    | .record r :: rest =>
      if r.words.length ≤ room then
        let admitted := admitHeld id q.backlog rest
        let drained := drainWith id fuel (room - r.words.length)
          { q with entries := admitted.1, backlog := admitted.2 }
        (drained.1, r.words ++ drained.2)
      else (q, [])
    | _ => (q, [])

/-- R131: the whole drain of a COLLECT with that room. -/
def ReplyQueue.drain (q : ReplyQueue) (id : Identity) (room : Nat) : ReplyQueue × List Word :=
  drainWith id (q.entries.length + q.backlog.length) room q

/-- An entry appended as the newest (R120). -/
def ReplyQueue.append (q : ReplyQueue) (e : Entry) : ReplyQueue := { q with entries := q.entries ++ [e] }

/-- R122: the reservation becomes the result record of its operation in its place. -/
def completeEntry (kind : ReplyKind) (result : List Word) : Entry → Entry
  | .reservation q p l => .record ⟨p, l, false, .reply kind (q :: result)⟩
  | .record r => .record r

/-- R88, R91: the reservation turned into its result record. -/
def ReplyQueue.complete (q : ReplyQueue) (kind : ReplyKind) (result : List Word) : ReplyQueue :=
  { q with entries := q.entries.map (completeEntry kind result) }

/-- A notice raised to the Reply Queue by a block (R123). -/
def State.raise (s : State) (k : NoticeKind) (detail : Option Word) : State :=
  { s with queue := s.queue.raise s.address k detail }

/-! ### The send queue and the outputs (R149, R151) -/

/-- Words of forwarded packets in the send queue; LINK NOTICE packets of the node's own do not count. -/
def forwardedWords : List SendEntry → Nat
  | [] => 0
  | e :: es => (if e.own then 0 else e.words.length) + forwardedWords es

/-- A packet placed in the send queue behind those that wait. -/
def State.enqueue (s : State) (e : SendEntry) : State :=
  { s with ring := { s.ring with sendQueue := s.ring.sendQueue ++ [e] } }

/-- A received packet forwarded with these words. -/
def State.forward (s : State) (words : List Word) : State := s.enqueue ⟨words, false, false⟩

/-- Something put on the ring output or the sensor line. -/
def State.emit (s : State) (o : Output) : State := { s with out := s.out ++ [o] }

/-! ### What blocks ask of each other -/

/-- R76: the active profile is the live map entry of the applied band. -/
def State.activeProfile (s : State) : Nat := s.banks.live.bandMap s.thermal.applied

/-- A commit is outstanding: PENDING or DEFERRED (R18). -/
def CommitState.outstanding : CommitState → Bool
  | .none => false
  | .pending _ => true
  | .deferred _ => true

/-- The store unit is STORING, in any phase (R27). -/
def StoreUnit.isStoring : StoreUnit → Bool
  | .storing .. => true
  | .startupRead => false
  | .idle => false
  | .reading _ => false

/-- The store unit is READING. -/
def StoreUnit.isReading : StoreUnit → Bool
  | .reading _ => true
  | .startupRead => false
  | .idle => false
  | .storing .. => false

/-- R10: the staged bank is locked while a commit is outstanding and while a load is READING. -/
def State.stagedLocked (s : State) : Bool := s.banks.commit.outstanding || s.store.unit.isReading

/-- Intake, promotion and the hold timer run in ACTIVE and TEST (Table 10-2). -/
def NodeState.showsPicture : NodeState → Bool
  | .active => true
  | .test => true
  | .loading => false
  | .standby => false

/-- R62: the outputs forced dark at once, for the rest of the cycle. -/
def State.forceDark (s : State) : State := { s with scan := { s.scan with source := .dark } }

/-- R54, R57: the presentation state LIVE, the hold timer started with the live hold time. -/
def State.startLive (s : State) : State :=
  { s with frames := { s.frames with presentation := .live, holdTimer := some s.banks.live.holdTime } }

end Sys2Proof.Machine
end

