-- ==== Sys2Proof/Machine/Addressing.lean ====
section
/-! DEFINITION. The Address Matcher (Chapter 8): enumeration, matching, and SET IDENTITY. -/

namespace Sys2Proof.Machine

/-! ### Enumeration (R136, R137) -/

/-- Table 8-2: the position taken from next position `q`. -/
def positionFrom (q : Word) : Option (Fin 64) := if h : q.toNat < 64 then some ⟨q.toNat, h⟩ else none

/-- Table 8-2: the next position forwarded. -/
def nextPosition (q : Word) : Word := if q.toNat < 64 then q + 1 else 64#16

/-- R97, R99, R137: a change of position value ends the unicast series and empties the replay cache. -/
def State.endUnicastSeries (s : State) : State :=
  { s with commands := { s.commands with unicastLast := none, replayCache := none } }

/-- R136, R137: the node takes its position from an ENUM. -/
def State.takePosition (s : State) (q : Word) : State :=
  let p := positionFrom q
  let s1 : State := { s with address := { s.address with position := p } }
  if p = s.address.position then s1 else s1.endUnicastSeries

/-! ### Matching (R138, R139) -/

/-- Table 8-3: a CONTROL packet's address concerns the node. -/
def Identity.concerned (id : Identity) (mode v : Word) : Bool :=
  match mode.toNat with
  | 1 => id.position.any fun p => p.val == v.toNat
  | 2 => id.logicalId.any fun i => i.val == v.toNat
  | 3 => inGroup id.groups v
  | 4 => true
  | _ => false

/-- Table 8-4: a COLLECT's scope matches the node. -/
def Identity.inScope (id : Identity) (mode v : Word) : Bool :=
  match mode.toNat with
  | 1 => id.position.any fun p => p.val == v.toNat
  | 3 => inGroup id.groups v
  | 4 => true
  | _ => false

/-! ### SET IDENTITY (R141) -/

/-- R141: the owner's checks, in order. -/
def checkSetIdentity (mode logicalId : Word) : Option Disposition :=
  if mode ≠ 1#16 then some .invalid
  else if (logicalIdOf logicalId).isNone then some .invalid
  else none

/-- R141: the logical id and the group set replaced. -/
def State.setIdentity (s : State) (logicalId groups : Word) : State :=
  match logicalIdOf logicalId with
  | none => s
  | some i => { s with address := { s.address with logicalId := i, groups := groups } }

end Sys2Proof.Machine
end

