-- ==== Sys2Proof/Machine/Thermal.lean ====
section
/-! DEFINITION. The Thermal Monitor (Chapter 4): sampling, placement, application of bands, cutoff, and
READ TEMPERATURE. -/

namespace Sys2Proof.Machine

/-! ### Placement (R72, R73) -/

/-- R72, the up pass: at most `fuel` steps, which is n - 1 - b at the start. -/
def placeUp (bank : Bank) (t : Int) : Nat → Nat → Nat
  | 0, b => b
  | fuel + 1, b =>
    if b + 1 < bank.bandCount ∧ t ≥ bank.threshold (b + 1) + bank.hysteresis then placeUp bank t fuel (b + 1) else b

/-- R72, the down pass. -/
def placeDown (bank : Bank) (t : Int) : Nat → Nat
  | 0 => 0
  | b + 1 => if t < bank.threshold (b + 1) then placeDown bank t b else b + 1

/-- R72: placement with hysteresis of reading `t` from band `b`. -/
def placeHysteresis (bank : Bank) (t : Int) (b : Nat) : Nat :=
  placeDown bank t (placeUp bank t bank.bandCount b)

/-- The largest band up to `b` whose threshold is at or below `t`; T(0) is below every reading. -/
def placeFreshFrom (bank : Bank) (t : Int) : Nat → Nat
  | 0 => 0
  | b + 1 => if bank.threshold (b + 1) ≤ t then b + 1 else placeFreshFrom bank t b

/-- R73: fresh placement of reading `t`. -/
def placeFresh (bank : Bank) (t : Int) : Nat := placeFreshFrom bank t (bank.bandCount - 1)

/-! ### Pending and applied band (R74, R75, R77) -/

/-- R74: a placed band becomes the pending band if it differs from the applied band, and removes it otherwise. -/
def State.setPlaced (s : State) (b : Nat) : State :=
  { s with thermal := { s.thermal with pending := if b = s.thermal.applied then none else some b } }

/-- R75: the pending band, if there is one, is applied and BAND CHANGED raised. -/
def State.applyPending (s : State) : State :=
  match s.thermal.pending with
  | none => s
  | some b =>
    { s with thermal := { s.thermal with applied := b, pending := none } }.raise .bandChanged
      (some (BitVec.ofNat 16 b))

/-- R70, R71: a measurement applies its band at once in STANDBY, HOLD and DARK. -/
def State.appliesAtOnce (s : State) : Bool :=
  s.node == .standby || s.frames.presentation == .hold || s.frames.presentation == .dark

/-- The pending band applied if the measurement may do so. -/
def State.applyAtMeasurement (s : State) : State := if s.appliesAtOnce then s.applyPending else s

/-- R77: the band that a commit with BANDS in its dirty set applies, under the new live bank. -/
def State.bandAtCommit (s : State) : Nat :=
  match s.thermal.sensor, s.thermal.reading with
  | .ok, some t => placeFresh s.banks.live t
  | .ok, none => s.banks.live.fallbackBand
  | .fault, _ => s.banks.live.fallbackBand

/-- R77: what the Thermal Monitor does at a commit application, given the dirty set, with the live bank holding the
new tables. -/
def State.thermalAtCommit (s : State) (dirty : BitVec 6) : State :=
  if isDirty dirty .bands then
    let b := s.bandAtCommit
    let s' : State := { s with thermal := { s.thermal with applied := b, pending := none } }
    if b = s.thermal.applied then s' else s'.raise .bandChanged (some (BitVec.ofNat 16 b))
  else s

/-! ### Measurements (R68 to R71, R78) -/

/-- R78: the cutoff evaluated with a good reading; at entry to CUT the outputs go dark at once. -/
def State.evaluateCutoff (s : State) (t : Int) : State :=
  match s.thermal.cutoff with
  | .clear =>
    if s.banks.live.cutoff ≤ t then
      ({ s with thermal := { s.thermal with cutoff := .cut } }.forceDark).raise .cutoffEntered
        (some (BitVec.ofInt 16 t))
    else s
  | .cut =>
    if t < s.banks.live.cutoff - s.banks.live.cutoffHysteresis then
      { s with thermal := { s.thermal with cutoff := .clear } }.raise .cutoffLeft (some (BitVec.ofInt 16 t))
    else s

/-- R70, step 2: fresh placement on the return from FAULT, placement with hysteresis otherwise. -/
def State.placeReading (s : State) (t : Int) : Nat :=
  match s.thermal.sensor with
  | .fault => placeFresh s.banks.live t
  | .ok => placeHysteresis s.banks.live t s.thermal.applied

/-- R70: a good reading completes a measurement. -/
def State.goodReading (s : State) (t : Int) : State :=
  let placed := s.placeReading t
  let s1 : State := { s with thermal := { s.thermal with reading := some t, sensor := .ok } }
  ((s1.setPlaced placed).applyAtMeasurement).evaluateCutoff t

/-- R71: a fault completes a measurement. -/
def State.measurementFault (s : State) (cause : Word) : State :=
  let s1 : State := { s with thermal := { s.thermal with sensor := .fault } }.raise .sensorFault (some cause)
  (s1.setPlaced s1.banks.live.fallbackBand).applyAtMeasurement

/-- The request is no longer outstanding (R69). -/
def State.endRequest (s : State) : State := { s with thermal := { s.thermal with request := none } }

/-- R69, R70, R71: a sensor answer; ignored when no request is outstanding. DESIGN CHOICE (log entry 17): an answer is
that of the request outstanding when it is taken, so one to a request already ended, taken once a newer request is
outstanding, is the newer request's. -/
def State.sensorAnswer (s : State) (answer : Word) : State :=
  match s.thermal.request with
  | none => s
  | some _ =>
    if signedIn (-80) 250 answer then s.endRequest.goodReading answer.toInt
    else s.endRequest.measurementFault outOfRangeCause

/-- R69, R71: the answer limit of an outstanding request expires. -/
def State.answerLimitExpiry (s : State) : State :=
  match s.thermal.request with
  | none => s
  | some _ => s.endRequest.measurementFault noAnswerCause

/-- R68, R69: the sample timer, if it runs, expires: it restarts with the live sample interval, and a conversion
request is sent if none is outstanding. -/
def State.sampleTimerExpiry (s : State) : State :=
  match s.thermal.sampleTimer with
  | none => s
  | some _ =>
    let s1 : State :=
      { s with thermal := { s.thermal with sampleTimer := some s.banks.live.sampleInterval } }
    match s.thermal.request with
    | some _ => s1
    | none =>
      { s1 with thermal := { s1.thermal with request := some Config.answerLimit } }.emit .conversionRequest

/-! ### READ TEMPERATURE (R79) -/

/-- The words of a TEMPERATURE body after the sequence and code word (Table 9-15). -/
def State.temperatureWords (s : State) : List Word :=
  [readingWord s.thermal.reading, sensorCode s.thermal.sensor, BitVec.ofNat 16 s.thermal.applied,
    bandWord s.thermal.pending, cutoffCode s.thermal.cutoff, BitVec.ofNat 16 s.activeProfile]

/-! ### The rows -/

/-- SAMPLE_TIMER_EXPIRY (R68). -/
def execSampleTimerExpiry (s : State) : Result := .next s.sampleTimerExpiry

/-- SENSOR_ANSWER (R69). -/
def execSensorAnswer (reading : Word) (s : State) : Result := .next (s.sensorAnswer reading)

/-- ANSWER_LIMIT_EXPIRY (R69). -/
def execAnswerLimitExpiry (s : State) : Result := .next s.answerLimitExpiry

end Sys2Proof.Machine
end

