-- ==== Sys2Proof/Machine/Banks.lean ====
section
/-! DEFINITION. The Table Banks (Chapter 1): the owner's checks and the effects of WRITE TABLE, READ TABLE, COPY LIVE,
COMMIT and CANCEL COMMIT, the commit application, and the Table Banks' part of a SHOW. -/

namespace Sys2Proof.Machine

/-! ### WRITE TABLE (R12) -/

/-- R12: the owner's checks, in order; nothing when all pass. -/
def State.checkWriteTable (s : State) (table start : Word) (values : List Word) : Option Disposition :=
  match tableOf table with
  | none => some .invalid
  | some t =>
    if t.entries < start.toNat + values.length then some .invalid
    else if s.stagedLocked then some .locked
    else if !runInRange t start.toNat values then some .invalid
    else none

/-- R12: the run written to the staged bank, and the table added to the dirty set. -/
def State.writeTable (s : State) (table start : Word) (values : List Word) : State :=
  match tableOf table with
  | none => s
  | some t =>
    { s with banks :=
      { s.banks with
        staged := s.banks.staged.setTable t (writeRun (s.banks.staged.table t) start.toNat values)
        dirty := withDirty s.banks.dirty t } }

/-! ### READ TABLE (R13) -/

/-- R13: the owner's checks, in order. -/
def checkReadTable (bank table start count : Word) : Option Disposition :=
  match bankIsLive bank, tableOf table with
  | none, _ => some .invalid
  | some _, none => some .invalid
  | some _, some t =>
    if count.toNat < 1 ∨ Config.maxRead < count.toNat then some .invalid
    else if t.entries < start.toNat + count.toNat then some .invalid
    else none

/-- The bank a bank code names, and the staged bank for an undefined code, which R13 refuses. -/
def Banks.named (b : Banks) (bank : Word) : Bank :=
  match bankIsLive bank with
  | some true => b.live
  | some false => b.staged
  | none => b.staged

/-- R13: the entries of a TABLE DATA record. -/
def State.readEntries (s : State) (bank table start count : Word) : List Word :=
  match tableOf table with
  | none => []
  | some t => readRun ((s.banks.named bank).table t) start.toNat count.toNat

/-! ### COPY LIVE (R14) -/

/-- R14: the staged bank takes the live tables, and the dirty set becomes empty. -/
def State.copyLive (s : State) : State :=
  { s with banks := { s.banks with staged := s.banks.live, dirty := 0 } }

/-! ### Commit application (R23) -/

/-- R23: the live bank replaced by the staged bank, the Thermal Monitor's part, COMMIT APPLIED with the dirty set as
it stood, and the commit record and dirty set cleared. -/
def State.applyCommit (s : State) : State :=
  let dirty := s.banks.dirty
  let s1 : State := { s with banks := { s.banks with live := s.banks.staged } }
  let s2 := (s1.thermalAtCommit dirty).raise .commitApplied (some (dirtyWord dirty))
  { s2 with banks := { s2.banks with dirty := 0, commit := .none } }

/-! ### COMMIT and CANCEL COMMIT (R17 to R22) -/

/-- R19: the owner's checks, in order. -/
def State.checkCommit (s : State) (kind : Word) : Option Disposition :=
  match targetKindOf kind with
  | none => some .invalid
  | some k =>
    if s.stagedLocked then some .locked
    else if k = .immediate ∧ s.store.unit.isStoring then some .busy
    else if (validate s.banks.staged).isSome then some .invalid
    else none

/-- R17, R19: a refused COMMIT leaves the node as it was, but one refused by validation, the check after a defined
target kind, an unlocked bank and a store unit that lets it pass, sets the last validation failure. -/
def State.refusedCommit (s : State) (kind : Word) : State :=
  match targetKindOf kind with
  | none => s
  | some k =>
    if s.stagedLocked then s
    else if k = .immediate ∧ s.store.unit.isStoring then s
    else
      match validate s.banks.staged with
      | none => s
      | some p => { s with banks := { s.banks with lastFailure := some p } }

/-- R19, R20, R21: COMMIT accepted. -/
def State.acceptCommit (s : State) (kind frame : Word) : State :=
  let s1 : State := { s with banks := { s.banks with lastFailure := none } }
  match targetKindOf kind with
  | some .next => { s1 with banks := { s1.banks with commit := .pending .next } }
  | some .frame => { s1 with banks := { s1.banks with commit := .pending (.frame frame) } }
  | some .immediate => s1.applyCommit
  | none => s

/-- R22: an outstanding commit withdrawn; the staged bank and its dirty set stay. -/
def State.cancelCommit (s : State) : State := { s with banks := { s.banks with commit := .none } }

/-! ### SHOW (R24, R25) -/

/-- R25: a SHOW of frame `k` is due for a target. -/
def CommitTarget.due (k : Word) : CommitTarget → Bool
  | .next => true
  | .frame f => isDue k f

/-- R24, Table 1-8: the Table Banks' part of a SHOW outside LOADING. -/
def State.commitAtShow (s : State) (k : Word) : State :=
  match s.banks.commit with
  | .none => s
  | .pending target =>
    if target.due k then
      if s.store.unit.isStoring then { s with banks := { s.banks with commit := .deferred target } }
      else s.applyCommit
    else s
  | .deferred _ => if s.store.unit.isStoring then s else s.applyCommit

end Sys2Proof.Machine
end

