-- ==== Sys2Proof/Machine/Store.lean ====
section
/-! DEFINITION. The Table Store (Chapter 5): images and their validity, STORE TABLES and LOAD STORED at acceptance,
and the phases of a store and a load. -/

namespace Sys2Proof.Machine

/-! ### Images and records (R81, R82) -/

/-- R81, R152: the check word of an image, over the generation as two words, high first, and the six tables. -/
def imageCheck (generation : BitVec 32) (tables : Bank) : Word :=
  crc (generationWords generation ++ tableOrder.flatMap tables.table)

/-- R81: how the start-up read judges an image: its check word, its generation and its tables. -/
def Image.judged : Image → ImageRecord
  | .unwritten => .invalid
  | .programmed _ => .invalid
  | .written g tables check =>
    if check = imageCheck g tables ∧ 1 ≤ g.toNat ∧ tables.shaped ∧ validate tables = none then .valid g else .invalid

/-- The six tables an image holds, when it holds them whole. -/
def Image.tables : Image → Option Bank
  | .unwritten => none
  | .programmed tables => some tables
  | .written _ tables _ => some tables

/-- The other image: the survivor of a store (R85). -/
def ImageId.other : ImageId → ImageId
  | .image0 => .image1
  | .image1 => .image0

/-- The memory of an image. -/
def Store.image (st : Store) : ImageId → Image
  | .image0 => st.image0
  | .image1 => st.image1

/-- The memory of an image replaced. -/
def Store.setImage (st : Store) (i : ImageId) (m : Image) : Store :=
  match i with
  | .image0 => { st with image0 := m }
  | .image1 => { st with image1 := m }

/-- The record of an image. -/
def Store.record (st : Store) : ImageId → ImageRecord
  | .image0 => st.record0
  | .image1 => st.record1

/-- The record of an image replaced. -/
def Store.setRecord (st : Store) (i : ImageId) (r : ImageRecord) : Store :=
  match i with
  | .image0 => { st with record0 := r }
  | .image1 => { st with record1 := r }

/-- R82: the newest valid image and its generation, from two image records. -/
def newestOf : ImageRecord → ImageRecord → Option (ImageId × BitVec 32)
  | .valid a, .valid b => if a.toNat < b.toNat then some (.image1, b) else some (.image0, a)
  | .valid a, .invalid => some (.image0, a)
  | .valid a, .unread => some (.image0, a)
  | .invalid, .valid b => some (.image1, b)
  | .unread, .valid b => some (.image1, b)
  | .invalid, .invalid => none
  | .invalid, .unread => none
  | .unread, .invalid => none
  | .unread, .unread => none

/-- R82: the newest valid image now. -/
def Store.newest (st : Store) : Option (ImageId × BitVec 32) := newestOf st.record0 st.record1

/-- R85: the image a store would write: the INVALID one, image 0 when both are, and otherwise the image that is not
the newest valid one. -/
def Store.target (st : Store) : ImageId :=
  match st.newest with
  | none => .image0
  | some (i, _) => i.other

/-- R85: the generation a store would write. -/
def Store.newGeneration (st : Store) : BitVec 32 :=
  match st.newest with
  | none => 1
  | some (_, g) => g + 1

/-- R84, step 2: the newest valid generation is the greatest there is. -/
def Store.exhausted (st : Store) : Bool :=
  match st.newest with
  | none => false
  | some (_, g) => g == Config.maxGeneration

/-! ### Acceptance (R84 to R86, R90) -/

/-- R84, R90: the reservation, with the command's sequence and code and the identity at the acceptance. -/
def State.reserve (s : State) (sequenceAndCode : Word) : State :=
  { s with queue := s.queue.append (.reservation sequenceAndCode s.address.position s.address.logicalId) }

/-- R86: the start of ERASE: the target's record becomes INVALID and its memory is no longer whole. -/
def Store.beginErase (st : Store) : Store :=
  { (st.setRecord st.target .invalid).setImage st.target .unwritten with
    unit := .storing .erase st.target st.newGeneration }

/-- R84: STORE TABLES accepted. -/
def State.storeTables (s : State) (sequenceAndCode : Word) : State :=
  { s.reserve sequenceAndCode with store := s.store.beginErase }

/-- R90: LOAD STORED accepted: the source is the newest valid image, or none. -/
def State.loadStored (s : State) (sequenceAndCode : Word) : State :=
  { s.reserve sequenceAndCode with store := { s.store with unit := .reading (s.store.newest.map Prod.fst) } }

/-! ### The phases of a store (R86 to R88) -/

/-- R86: ERASE completes, PROGRAM begins. -/
def State.eraseCompletion (s : State) : State :=
  match s.store.unit with
  | .storing .erase t g => { s with store := { s.store with unit := .storing .program t g } }
  | .storing .program _ _ => s
  | .storing .verify _ _ => s
  | .startupRead => s
  | .idle => s
  | .reading _ => s

/-- The tables as the memory took them: the bank programmed, but for the entries it failed to hold. -/
def programmedTables (bank : Bank) (defects : List Defect) : Bank :=
  defects.foldl (fun b d => b.setTable d.table ((b.table d.table).set d.index d.value)) bank

/-- R87: PROGRAM completes: the live bank stands in the target's memory, without generation and check word; VERIFY
begins. -/
def State.programCompletion (s : State) (defects : List Defect) : State :=
  match s.store.unit with
  | .storing .program t g =>
    { s with store :=
      { s.store.setImage t (.programmed (programmedTables s.banks.live defects)) with unit := .storing .verify t g } }
  | .storing .erase _ _ => s
  | .storing .verify _ _ => s
  | .startupRead => s
  | .idle => s
  | .reading _ => s

/-- R88: every entry read back from the target equals the same entry of the live bank. -/
def State.verifies (s : State) (t : ImageId) : Bool := (s.store.image t).tables == some s.banks.live

/-- R88: the words of a STORE RESULT body after the sequence and code word (Table 9-15). -/
def storeResultWords (ok : Bool) (t : ImageId) (g : BitVec 32) : List Word :=
  (if ok then 0#16 else 1#16) :: imageCode t :: generationWords g

/-- R88: VERIFY completes and ends the store. -/
def State.verifyCompletion (s : State) : State :=
  match s.store.unit with
  | .storing .verify t g =>
    let ok := s.verifies t
    let written := (s.store.setImage t (.written g s.banks.live (imageCheck g s.banks.live))).setRecord t (.valid g)
    { s with
      store := { (if ok then written else s.store) with unit := .idle }
      queue := s.queue.complete .storeResult (storeResultWords ok t g) }
  | .storing .erase _ _ => s
  | .storing .program _ _ => s
  | .startupRead => s
  | .idle => s
  | .reading _ => s

/-! ### The completion of a load (R91) -/

/-- The generation an image record holds, absent unless it is VALID. -/
def ImageRecord.generation : ImageRecord → Option (BitVec 32)
  | .valid g => some g
  | .unread => none
  | .invalid => none

/-- R91: the words of a LOAD RESULT body after the sequence and code word (Tables 9-15 and 9-19). -/
def loadResultWords (st : Store) : Option ImageId → List Word
  | none => [2#16, Config.noneWord, 0#16, 0#16]
  | some i => 0#16 :: imageCode i :: generationWords ((st.record i).generation.getD 0)

/-- R9, R10, R91: the source image's tables in the staged bank, and the dirty set all six. -/
def State.loadBank (s : State) : Option ImageId → State
  | none => s
  | some i =>
    match (s.store.image i).tables with
    | some tables => { s with banks := { s.banks with staged := tables, dirty := allDirty } }
    | none => s

/-- R91: a load completes. -/
def State.loadCompletion (s : State) : State :=
  match s.store.unit with
  | .reading source =>
    { s.loadBank source with
      store := { s.store with unit := .idle }
      queue := s.queue.complete .loadResult (loadResultWords s.store source) }
  | .storing _ _ _ => s
  | .startupRead => s
  | .idle => s

/-! ### The rows -/

/-- ERASE_COMPLETION (R86). -/
def execEraseCompletion (s : State) : Result := .next s.eraseCompletion

/-- PROGRAM_COMPLETION (R87). `defects` are the entries that the memory failed to take, which VERIFY finds (R88). -/
def execProgramCompletion (defects : List Defect) (s : State) : Result := .next (s.programCompletion defects)

/-- VERIFY_COMPLETION (R88). -/
def execVerifyCompletion (s : State) : Result := .next s.verifyCompletion

/-- LOAD_COMPLETION (R91). -/
def execLoadCompletion (s : State) : Result := .next s.loadCompletion

end Sys2Proof.Machine
end

