-- ==== Sys2Proof/Machine/Node.lean ====
section
/-! DEFINITION. The Node Controller (Chapter 10): SET STATE, the two resets, and leaving LOADING. -/

namespace Sys2Proof.Machine

/-! ### SET STATE (R165, R166) -/

/-- R165: the owner's checks, in order. -/
def checkSetState (target pattern red green blue : Word) : Option Disposition :=
  match targetStateOf target with
  | none => some .invalid
  | some t => if t = .test ∧ patternOf pattern red green blue = none then some .invalid else none

/-- R54, R62: the node leaves ACTIVE or TEST for STANDBY: the hold timer stops, the presentation state is kept, and
the outputs go dark at once. -/
def State.stopPicture (s : State) : State :=
  { s with frames := { s.frames with holdTimer := none } }.forceDark

/-- R54, R166, Table 10-4: what a change of node state between these two does to the presentation. -/
def State.changePresentation (s : State) (old new : NodeState) : State :=
  if !old.showsPicture && new.showsPicture then s.startLive
  else if old.showsPicture && !new.showsPicture then s.stopPicture
  else s

/-- R64: the pattern selection an accepted SET STATE leaves. -/
def selectedPattern (target : NodeState) (pattern red green blue : Word) : Option Pattern :=
  if target = .test then patternOf pattern red green blue else none

/-- R166: SET STATE accepted. -/
def State.setState (s : State) (target pattern red green blue : Word) : State :=
  match targetStateOf target with
  | none => s
  | some t =>
    State.changePresentation
      { s with node := t, scan := { s.scan with pattern := selectedPattern t pattern red green blue } } s.node t

/-! ### Resets (R162, R163, Table 10-3) -/

/-- R157, R162: the hard reset pin asserted. What was put out stays put out, the commands that wait still wait, and
the non-volatile memory keeps its contents; the banks wait for the start-up read. -/
def State.hardReset (s : State) : State where
  pending := s.pending
  out := s.out
  resetPin := true
  ring := resetRing
  address := resetIdentity
  commands := resetCommandUnit
  queue := resetQueue
  banks := resetBanks s.banks.staged s.banks.live
  intake := resetIntake
  frames := resetFrames
  scan := resetScan
  thermal := resetThermal
  store := resetStore s.store.image0 s.store.image1
  node := .loading

/-- R58, R92, R162: the pin released: the start-up read begins, and a refresh cycle at row 0 with code 1, dark. A
release with the pin not asserted is no event. -/
def State.hardRelease (s : State) : State :=
  if s.resetPin then { s with resetPin := false, scan := { s.scan with cycleCode := 1, source := .dark } } else s

/-- R163: a RESET NODE takes effect. The Ring Interface keeps its link, loss record, timer and send queue (R145,
R151), the Address Matcher its identity (R135), and the cycle in progress runs on, dark (R58). -/
def State.nodeReset (s : State) : State where
  pending := s.pending
  out := s.out
  resetPin := s.resetPin
  ring := { s.ring with resetPhase := .idle, damagedPackets := 0, unknownPackets := 0, linkLosses := 0 }
  address := s.address
  commands := resetCommandUnit
  queue := resetQueue
  banks := resetBanks s.banks.staged s.banks.live
  intake := resetIntake
  frames := resetFrames
  scan := { resetScan with cycleCode := s.scan.cycleCode }
  thermal := resetThermal
  store := resetStore s.store.image0 s.store.image1
  node := .loading

/-- RESET NODE accepted: its packet answers it, and the reset waits until that packet has left (R118, R163). -/
def State.answerResetNode (s : State) : State := { s with ring := { s.ring with resetPhase := .answered } }

/-! ### Leaving LOADING (R92, R164) -/

/-- R92, step 2: the tables the start-up read loads, and whether they are the factory defaults. -/
def Store.startupTables (st : Store) : Bank × Bool :=
  match newestOf st.image0.judged st.image1.judged with
  | none => (factory, true)
  | some (i, _) =>
    match (st.image i).tables with
    | some tables => (tables, false)
    | none => (factory, true)

/-- R92: the banks and the Table Store at the completion of the start-up read. -/
def State.loadAtStartup (s : State) : State :=
  let loaded := s.store.startupTables
  { s with
    banks := { s.banks with staged := loaded.1, live := loaded.1, dirty := 0, commit := .none }
    store :=
      { s.store with
        record0 := s.store.image0.judged
        record1 := s.store.image1.judged
        unit := .idle
        defaultsInUse := loaded.2 } }

/-- R67, R68, R164: the node leaves LOADING for the loaded start state, the applied band becomes the fallback band,
and the sample timer starts; in ACTIVE the presentation state is LIVE and the hold timer starts. -/
def State.leaveLoading (s : State) : State :=
  let s1 : State :=
    { s with
      node := if s.banks.live.startsActive then .active else .standby
      thermal :=
        { s.thermal with applied := s.banks.live.fallbackBand, sampleTimer := some s.banks.live.sampleInterval } }
  if s.banks.live.startsActive then s1.startLive else s1

/-- R92, R164: the start-up read completes. It runs while the store unit is STARTUP READ and the pin is not held. -/
def State.startupReadCompletion (s : State) : State :=
  if s.resetPin then s
  else
    match s.store.unit with
    | .startupRead => s.loadAtStartup.leaveLoading
    | .idle => s
    | .storing _ _ _ => s
    | .reading _ => s

/-! ### The rows -/

/-- HARD_RESET_ASSERTED (R162). -/
def execHardResetAsserted (s : State) : Result := .next s.hardReset

/-- HARD_RESET_RELEASE (R162). -/
def execHardResetRelease (s : State) : Result := .next s.hardRelease

/-- STARTUP_READ_COMPLETION (R92). -/
def execStartupReadCompletion (s : State) : Result := .next s.startupReadCompletion

end Sys2Proof.Machine
end

