-- ==== Sys2Proof/Machine/Status.lean ====
section
/-! DEFINITION. What the node reports of itself (Chapter 11 and R142): the STATUS and IDENTITY bodies, and CLEAR
COUNTERS. -/

namespace Sys2Proof.Machine

/-- R142: the words of an IDENTITY body after the sequence and code word. -/
def State.identityWords (s : State) : List Word :=
  [positionWord s.address.position, logicalIdWord s.address.logicalId, s.address.groups, nodeCode s.node,
    Config.revision]

/-- R169, R170: the active profile the status record reports, 0 in LOADING. -/
def State.reportedProfile (s : State) : Word :=
  if s.node = .loading then 0 else BitVec.ofNat 16 s.activeProfile

/-- Table 9-17, words 32 to 40: the backlog kinds, absent words beyond the backlog's length. -/
def backlogWords (backlog : List Held) : List Word :=
  ((backlog.map fun h => BitVec.ofNat 16 (noticeCode h.kind)) ++ List.replicate 9 Config.noneWord).take 9

/-- The defaults-in-use word. -/
def flagWord (b : Bool) : Word := if b then 1#16 else 0#16

/-- The tag of the SHOWN buffer. -/
def State.shownTag (s : State) : Option Word :=
  (([s.frames.buffer0, s.frames.buffer1, s.frames.buffer2].find? fun b => b.role == Role.shown).bind Buffer.tag)

/-- R168, R169, Table 9-17: the 48 words of a STATUS body after the sequence and code word. -/
def State.statusWords (s : State) : List Word :=
  [nodeCode s.node, presentationCode s.frames.presentation, BitVec.ofNat 16 s.thermal.applied,
    bandWord s.thermal.pending, cutoffCode s.thermal.cutoff, sensorCode s.thermal.sensor, s.reportedProfile,
    commitCode s.banks.commit]
  ++ targetWords s.banks.commit ++ [dirtyWord s.banks.dirty] ++ unitWords s.store.unit
  ++ imageRecordWords s.store.record0 ++ imageRecordWords s.store.record1 ++ [flagWord s.store.defaultsInUse]
  ++ failureWords s.banks.lastFailure ++ flaggedWords s.frames.lastShow ++ flaggedWords s.shownTag
  ++ [lastSequenceWord s.commands.unicastLast, lastSequenceWord s.commands.multicastLast,
    BitVec.ofNat 16 s.queue.entries.length, BitVec.ofNat 16 (reservationCount s.queue.entries),
    BitVec.ofNat 16 s.queue.backlog.length]
  ++ backlogWords s.queue.backlog
  ++ [s.ring.damagedPackets, s.ring.unknownPackets, s.ring.linkLosses, s.commands.sequenceRefusals,
    s.intake.stalePackets, s.intake.abandonedFrames, s.frames.skippedFrames, s.frames.unmatchedShows]

/-- R172: the eight counters 0, together. -/
def State.clearCounters (s : State) : State :=
  { s with
    ring := { s.ring with damagedPackets := 0, unknownPackets := 0, linkLosses := 0 }
    commands := { s.commands with sequenceRefusals := 0 }
    intake := { s.intake with stalePackets := 0, abandonedFrames := 0 }
    frames := { s.frames with skippedFrames := 0, unmatchedShows := 0 } }

end Sys2Proof.Machine
end

