-- ==== Sys2Proof/Machine/Commands.lean ====
section
/-! DEFINITION. The Command Unit (Chapter 6): availability, owner's checks, the reply-entry stage, unicast and
multicast acceptance, duplicates and replay, and SET NOTICES (R129). -/

namespace Sys2Proof.Machine

/-! ### The late stages (R106 to R108) -/

/-- R107, Table 6-4: the command is taken in the node state. -/
def availableIn (c : Command) : NodeState → Bool
  | .loading =>
    match c with
    | .identify => true
    | .readStatus => true
    | .resetNode => true
    | _ => false
  | .active =>
    match c with
    | .commit kind _ => decide (targetKindOf kind ≠ some .immediate)
    | _ => true
  | .standby => true
  | .test => true

/-- R129: the owner's check of SET NOTICES. -/
def checkSetNotices (mask : Word) : Option Disposition :=
  if (maskOf mask).isNone then some .invalid else none

/-- R84: the owner's checks of STORE TABLES, in order. -/
def State.checkStoreTables (s : State) : Option Disposition :=
  if s.store.unit ≠ .idle then some .busy
  else if s.store.exhausted then some .invalid
  else none

/-- R90: the owner's checks of LOAD STORED, in order. -/
def State.checkLoadStored (s : State) : Option Disposition :=
  if s.banks.commit.outstanding then some .locked
  else if s.store.unit ≠ .idle then some .busy
  else none

/-- R108: the owner's checks of a command; nothing when all pass. -/
def State.ownerCheck (s : State) (mode : Word) : Command → Option Disposition
  | .identify => none
  | .setIdentity logicalId _ => checkSetIdentity mode logicalId
  | .writeTable table start values => s.checkWriteTable table start values
  | .readTable bank table start count => checkReadTable bank table start count
  | .copyLive => if s.stagedLocked then some .locked else none
  | .commit kind _ => s.checkCommit kind
  | .cancelCommit => none
  | .storeTables => s.checkStoreTables
  | .loadStored => s.checkLoadStored
  | .readStatus => none
  | .readTemperature => none
  | .setState target pattern red green blue => checkSetState target pattern red green blue
  | .setNotices mask => checkSetNotices mask
  | .clearCounters => none
  | .resetNode => none

/-- R108: commands that put an entry into the Reply Queue at acceptance. -/
def needsEntry : Command → Bool
  | .identify => true
  | .readTable .. => true
  | .readStatus => true
  | .readTemperature => true
  | .storeTables => true
  | .loadStored => true
  | .setIdentity .. => false
  | .writeTable .. => false
  | .copyLive => false
  | .commit .. => false
  | .cancelCommit => false
  | .setState .. => false
  | .setNotices .. => false
  | .clearCounters => false
  | .resetNode => false

/-- What stages 3 to 6 of Table 6-3 decide. -/
inductive Verdict where
  | refused (d : Disposition)
  | accepted (c : Command)
deriving DecidableEq, Repr

/-- R106 to R108, R111: command, availability, owner's checks and reply entry, in order. -/
def State.lateStages (s : State) (mode code : Word) (params : List Word) : Verdict :=
  match Command.parse code params with
  | none => .refused .unknown
  | some c =>
    if !availableIn c s.node then .refused .state
    else
      match s.ownerCheck mode c with
      | some d => .refused d
      | none => if needsEntry c && !hasFreeEntry s.queue.entries then .refused .busy else .accepted c

/-- R110, R17: the state a refusal at stages 3 to 6 leaves: as it was, but for the last validation failure of a
COMMIT that its availability lets through. -/
def State.afterRefusal (s : State) (code : Word) (params : List Word) : State :=
  match Command.parse code params with
  | some (.commit kind frame) => if availableIn (.commit kind frame) s.node then s.refusedCommit kind else s
  | _ => s

/-! ### Carrying a command out (R109) -/

/-- R129: SET NOTICES accepted: the mask replaced, and the kinds it disables gone from the backlog. -/
def State.setNotices (s : State) (mask : Word) : State :=
  match maskOf mask with
  | none => s
  | some m =>
    { s with queue :=
      { s.queue with mask := m, backlog := s.queue.backlog.filter fun h => isEnabled m h.kind } }

/-- The command's effect by its owner (R109, step 2), but for the reply record of step 3. `opening` is the sequence
and code word. -/
def State.perform (s : State) (opening : Word) : Command → State
  | .identify => s
  | .setIdentity logicalId groups => s.setIdentity logicalId groups
  | .writeTable table start values => s.writeTable table start values
  | .readTable _ _ _ _ => s
  | .copyLive => s.copyLive
  | .commit kind frame => s.acceptCommit kind frame
  | .cancelCommit => s.cancelCommit
  | .storeTables => s.storeTables opening
  | .loadStored => s.loadStored opening
  | .readStatus => s
  | .readTemperature => s
  | .setState target pattern red green blue => s.setState target pattern red green blue
  | .setNotices mask => s.setNotices mask
  | .clearCounters => s.clearCounters
  | .resetNode => s.answerResetNode

/-- The reply record a command makes at its acceptance (R109, step 3), if it makes one. -/
def State.replyTo (s : State) (opening : Word) : Command → Option Record
  | .identify => some (s.address.reply .identity (opening :: s.identityWords))
  | .readTable bank table start count =>
    some (s.address.reply .tableData
      (opening :: bank :: table :: start :: s.readEntries bank table start count))
  | .readStatus => some (s.address.reply .status (opening :: s.statusWords))
  | .readTemperature => some (s.address.reply .temperature (opening :: s.temperatureWords))
  | .setIdentity .. => none
  | .writeTable .. => none
  | .copyLive => none
  | .commit .. => none
  | .cancelCommit => none
  | .storeTables => none
  | .loadStored => none
  | .setState .. => none
  | .setNotices .. => none
  | .clearCounters => none
  | .resetNode => none

/-- A reply record, if there is one, appended as the newest entry. -/
def State.appendReply (s : State) : Option Record → State
  | none => s
  | some r => { s with queue := s.queue.append (.record r) }

/-- R109, steps 2 and 3: the command carried out and its reply appended, in a state whose last sequence is set. -/
def State.carryOut (s : State) (opening : Word) (c : Command) : State :=
  (s.perform opening c).appendReply (s.replyTo opening c)

/-! ### Unicast (R102 to R110) -/

/-- R109: a unicast command accepted. -/
def State.acceptUnicast (s : State) (sequence : BitVec 8) (code : Word) (c : Command) : State :=
  let opening := sequenceAndCode sequence code
  let s1 : State := { s with commands := { s.commands with unicastLast := some sequence } }
  let s2 := s1.carryOut opening c
  { s2 with commands := { s2.commands with replayCache := s1.replyTo opening c } }

/-- R105: a unicast duplicate. -/
def State.replay (s : State) : State × Disposition :=
  match s.commands.replayCache with
  | none => (s, .duplicate)
  | some r =>
    if hasFreeEntry s.queue.entries then
      ({ s with queue := s.queue.append (.record { r with replay := true }) }, .duplicate)
    else (s, .busy)

/-- The outcome of the sequence stage (R104). -/
inductive SequenceStage where
  | passes | duplicate | refused
deriving DecidableEq, Repr

/-- R104: the sequence stage of a unicast packet. -/
def sequenceStage (last : Option (BitVec 8)) (resyncSet : Bool) (sequence : BitVec 8) : SequenceStage :=
  if resyncSet then .passes
  else
    match last with
    | none => .passes
    | some l => if sequence = l then .duplicate else if sequence = l + 1 then .passes else .refused

/-- R100: one more packet refused SEQUENCE. -/
def State.countSequenceRefusal (s : State) : State :=
  { s with commands := { s.commands with sequenceRefusals := saturatingInc s.commands.sequenceRefusals } }

/-- R102, Table 6-3: a unicast packet at the Command Unit: the state it leaves and the disposition it is given. -/
def State.unicast (s : State) (h : Header) (code : Word) (params : List Word) : State × Disposition :=
  if h.disposition ≠ 0 then (s, .conflict)
  else
    match sequenceStage s.commands.unicastLast (resync h.attrs) (sequenceOf h.sequence) with
    | .duplicate => s.replay
    | .refused => (s.countSequenceRefusal, .sequence)
    | .passes =>
      match s.lateStages h.mode code params with
      | .refused d => (s.afterRefusal code params, d)
      | .accepted c => (s.acceptUnicast (sequenceOf h.sequence) code c, .accepted)

/-! ### Multicast (R111 to R114) -/

/-- R111: a multicast command accepted. -/
def State.acceptMulticast (s : State) (sequence : BitVec 8) (code : Word) (c : Command) : State :=
  State.carryOut { s with commands := { s.commands with multicastLast := some sequence } }
    (sequenceAndCode sequence code) c

/-- R112: the multicast duplicate test. -/
def isMulticastDuplicate (last : Option (BitVec 8)) (resyncSet : Bool) (sequence : BitVec 8) : Bool :=
  !resyncSet && last == some sequence

/-- R111: a multicast packet at the Command Unit: the state it leaves and whether it counts as accepted. -/
def State.multicast (s : State) (h : Header) (code : Word) (params : List Word) : State × Bool :=
  if isMulticastDuplicate s.commands.multicastLast (resync h.attrs) (sequenceOf h.sequence) then (s, true)
  else
    match s.lateStages h.mode code params with
    | .refused _ => (s.afterRefusal code params, false)
    | .accepted c => (s.acceptMulticast (sequenceOf h.sequence) code c, true)

/-- R113: the counts and the refusal map of a multicast packet this node has handled. -/
def countMulticast (position : Option (Fin 64)) (h : Header) (counted : Bool) : Header :=
  if counted then { h with accepts := saturatingInc h.accepts }
  else
    { h with
      refuses := saturatingInc h.refuses
      refusalMap :=
        match position with
        | some p => markPosition h.refusalMap p.val
        | none => h.refusalMap }

/-! ### A CONTROL packet that concerns the node (R101) -/

/-- R101: the Command Unit's handling of a packet that concerns the node: the state it leaves and the header it is
forwarded with. -/
def State.commandUnit (s : State) (h : Header) (code : Word) (params : List Word) : State × Header :=
  if isMulticast h.mode then
    let outcome := s.multicast h code params
    (outcome.1, countMulticast s.address.position h outcome.2)
  else
    let outcome := s.unicast h code params
    (outcome.1, { h with disposition := dispositionCode outcome.2 })

end Sys2Proof.Machine
end

