-- ==== Sys2Proof/Machine/Frames.lean ====
section
/-! DEFINITION. The Frame Buffers (Chapter 3, sections 3.1 to 3.4): roles, promotion, unmatched SHOWs, presentation,
the presentation state and the hold timer. -/

namespace Sys2Proof.Machine

/-- The three buffers. -/
def Frames.buffers (f : Frames) : List Buffer := [f.buffer0, f.buffer1, f.buffer2]

/-- Every buffer changed by the same rule. -/
def Frames.mapBuffers (f : Frames) (g : Buffer → Buffer) : Frames :=
  { f with buffer0 := g f.buffer0, buffer1 := g f.buffer1, buffer2 := g f.buffer2 }

/-- The buffer that holds a role. -/
def Frames.withRole (f : Frames) (r : Role) : Option Buffer := f.buffers.find? fun b => b.role == r

/-- The content of the buffer that holds a role. -/
def Frames.contentOf (f : Frames) (r : Role) : List Word := ((f.withRole r).map Buffer.content).getD []

/-- R36, R51: the newest presented or presentable frame: the PENDING content, otherwise the SHOWN content. -/
def Frames.newestContent (f : Frames) : List Word :=
  match f.withRole .pending with
  | some b => b.content
  | none => f.contentOf .shown

/-- R49: what promotion with tag `k` does to a buffer, given the FILLING content. The third buffer, PENDING and
skipped or FREE, becomes FILLING as an untagged copy. -/
def promoteBuffer (k : Word) (filled : List Word) (b : Buffer) : Buffer :=
  match b.role with
  | .shown => b
  | .filling => ⟨.pending, some k, b.content⟩
  | .pending => ⟨.filling, none, filled⟩
  | .free => ⟨.filling, none, filled⟩

/-- R52: what presentation does to a buffer when one is PENDING. -/
def presentBuffer (b : Buffer) : Buffer :=
  match b.role with
  | .shown => ⟨.free, none, b.content⟩
  | .pending => ⟨.shown, b.tag, b.content⟩
  | .filling => b
  | .free => b

/-- The FILLING buffer's content and tag replaced. -/
def refill (content : List Word) (tag : Option Word) (b : Buffer) : Buffer :=
  match b.role with
  | .filling => ⟨.filling, tag, content⟩
  | .free => b
  | .pending => b
  | .shown => b

/-- R50: a PENDING buffer found by a promoting SHOW is skipped: counted, and FRAME SKIPPED raised with its tag. -/
def State.skipPending (s : State) : State :=
  match s.frames.withRole .pending with
  | none => s
  | some b =>
    { s with frames := { s.frames with skippedFrames := saturatingInc s.frames.skippedFrames } }.raise .frameSkipped
      (some (b.tag.getD 0))

/-- R49: a SHOW of frame `k` promotes the FILLING buffer. -/
def State.promote (s : State) (k : Word) : State :=
  let s1 := s.skipPending
  { s1 with frames := s1.frames.mapBuffers (promoteBuffer k (s1.frames.contentOf .filling)) }

/-- R51: an unmatched SHOW. -/
def State.unmatched (s : State) : State :=
  { s with frames :=
    { s.frames.mapBuffers (refill s.frames.newestContent none) with
      unmatchedShows := saturatingInc s.frames.unmatchedShows } }

/-- The FILLING buffer's tag. -/
def Frames.fillingTag (f : Frames) : Option Word := (f.withRole .filling).bind Buffer.tag

/-- R48: a SHOW matches a FILLING buffer that is untagged or tagged with its number. -/
def Frames.matchesShow (f : Frames) (k : Word) : Bool :=
  match f.fillingTag with
  | none => true
  | some t => t == k

/-- R48, R49, R51, R57: the Frame Buffers' part of a SHOW, after the Table Banks and the Thermal Monitor. -/
def State.framesAtShow (s : State) (k : Word) : State :=
  match s.node with
  | .loading => s
  | .standby => { s with frames := { s.frames with lastShow := some k } }
  | .active => showPicture { s with frames := { s.frames with lastShow := some k } }
  | .test => showPicture { s with frames := { s.frames with lastShow := some k } }
where
  /-- In ACTIVE and TEST: promotion or an unmatched SHOW, then LIVE with the timer restarted. -/
  showPicture (s1 : State) : State :=
    (if s1.frames.matchesShow k then s1.promote k else s1.unmatched).startLive

/-- R52: the PENDING buffer, if there is one, is presented. -/
def Frames.present (f : Frames) : Frames :=
  match f.withRole .pending with
  | none => f
  | some _ => f.mapBuffers presentBuffer

/-- R55, R56: the hold timer, if it runs, expires. -/
def State.holdTimerExpiry (s : State) : State :=
  match s.frames.holdTimer, s.frames.presentation with
  | none, _ => s
  | some _, .live =>
    { s with frames :=
      { s.frames with
        presentation := .hold
        holdTimer := if s.banks.live.darkDelay = 0 then none else some s.banks.live.darkDelay } }.raise .holdEntered
      s.frames.lastShow
  | some _, .hold =>
    ({ s with frames := { s.frames with presentation := .dark, holdTimer := none } }.forceDark).raise .darkEntered
      s.frames.lastShow
  | some _, .dark => s

/-- HOLD_TIMER_EXPIRY (R55, R56). -/
def execHoldTimerExpiry (s : State) : Result := .next s.holdTimerExpiry

end Sys2Proof.Machine
end

