-- ==== Sys2Proof/Machine/Intake.lean ====
section
/-! DEFINITION. Pixel Intake (Chapter 2): the window test, the comparison with the FILLING tag, the correction, and
the writing of the FILLING buffer. -/

namespace Sys2Proof.Machine

/-! ### Finding the tile's pixels (R31 to R33) -/

/-- Three samples: red, green and blue. -/
structure Triple where
  red : Word
  green : Word
  blue : Word
deriving DecidableEq, Repr

/-- The sample triples of a packet in the order of the run. -/
def triples : List Word → List Triple
  | red :: green :: blue :: rest => ⟨red, green, blue⟩ :: triples rest
  | _ => []

/-- A pixel in the window: its row and column of the tile and its samples. -/
structure TilePixel where
  row : Nat
  column : Nat
  samples : Triple
deriving DecidableEq, Repr

/-- R32: a wall line and column lie in the tile's window. -/
def inWindow (b : Bank) (line column : Nat) : Bool :=
  decide (b.originRow ≤ line) && decide (line ≤ b.originRow + 31) &&
    decide (b.originColumn ≤ column) && decide (column ≤ b.originColumn + 31)

/-- R33: a local coordinate under the orientation. -/
def oriented (b : Bank) (i : Nat) : Nat := if b.rotated then 31 - i else i

/-- R32, R33: the pixels of a run that lie in the window, from wall column `column` on. -/
def tilePixels (b : Bank) (line : Nat) : Nat → List Triple → List TilePixel
  | _, [] => []
  | column, t :: ts =>
    if inWindow b line column then
      ⟨oriented b (line - b.originRow), oriented b (column - b.originColumn), t⟩ :: tilePixels b line (column + 1) ts
    else tilePixels b line (column + 1) ts

/-- R31: a pixel count of 0 or above 256 carries no pixel that Pixel Intake takes. -/
def pixelsInWindow (b : Bank) (line column count : Word) (samples : List Word) : List TilePixel :=
  if count.toNat = 0 ∨ Config.maxPixels < count.toNat then []
  else tilePixels b line.toNat column.toNat ((triples samples).take count.toNat)

/-! ### Correction (R38 to R40) -/

/-- R31, R38: the gained sample. A sample above 1023 is taken as 1023. -/
def gained (gain sample : Nat) : Nat := min 1023 (min sample 1023 * gain / 4096)

/-- R39: the curve level of a gained sample. -/
def curveLevel (b : Bank) (colour g : Nat) : Nat :=
  let i := g / 32
  b.knot colour i + (b.knot colour (i + 1) - b.knot colour i) * (g - 32 * i) / 32

/-- R40: the drive level of a curve level. -/
def scaled (scale level : Nat) : Nat := level * scale / 4096

/-- R38 to R40: a sample of one colour of the element at row `r` and column `c` under a profile. -/
def corrected (b : Bank) (profile r c colour : Nat) (sample : Word) : Word :=
  BitVec.ofNat 16
    (scaled (b.scale profile colour) (curveLevel b colour (gained (b.gainAt r c colour) sample.toNat)))

/-! ### Writing the FILLING buffer (R35 to R37, R41) -/

/-- Where the levels of an element begin in a buffer's content (R45). -/
def elementIndex (r c : Nat) : Nat := (r * 32 + c) * 3

/-- R41: one corrected pixel written. -/
def writePixel (b : Bank) (profile : Nat) (content : List Word) (p : TilePixel) : List Word :=
  let i := elementIndex p.row p.column
  ((content.set i (corrected b profile p.row p.column 0 p.samples.red)).set (i + 1)
    (corrected b profile p.row p.column 1 p.samples.green)).set (i + 2)
    (corrected b profile p.row p.column 2 p.samples.blue)

/-- R41: the pixels of a packet written in the order of the run. -/
def writePixels (b : Bank) (profile : Nat) (content : List Word) (ps : List TilePixel) : List Word :=
  ps.foldl (writePixel b profile) content

/-- The packet's pixels written into the FILLING buffer, which takes tag `n`; its content was, or is first replaced
by, `content`. -/
def State.takePixels (s : State) (n : Word) (content : List Word) (ps : List TilePixel) : State :=
  { s with frames :=
    s.frames.mapBuffers (refill (writePixels s.banks.live s.activeProfile content ps) (some n)) }

/-- R37: a stale packet is counted and discarded. -/
def State.discardStale (s : State) : State :=
  { s with intake := { s.intake with stalePackets := saturatingInc s.intake.stalePackets } }

/-- R36: a retag, which abandons the partly filled frame, then takes the packet. -/
def State.retag (s : State) (n : Word) (ps : List TilePixel) : State :=
  { s with intake := { s.intake with abandonedFrames := saturatingInc s.intake.abandonedFrames } }.takePixels n
    s.frames.newestContent ps

/-- R35: what becomes of a packet of frame `n` with pixels in the window. -/
def State.comparePixels (s : State) (n : Word) (ps : List TilePixel) : State :=
  match s.frames.fillingTag with
  | none => s.takePixels n (s.frames.contentOf .filling) ps
  | some t =>
    if n = t then s.takePixels n (s.frames.contentOf .filling) ps
    else if isLater n t then s.retag n ps
    else s.discardStale

/-- R29, R34: a well-formed PIXEL packet at Pixel Intake. -/
def State.takePixelPacket (s : State) (frame line column count : Word) (samples : List Word) : State :=
  if s.node.showsPicture then
    match pixelsInWindow s.banks.live line column count samples with
    | [] => s
    | p :: ps => s.comparePixels frame (p :: ps)
  else s

end Sys2Proof.Machine
end

