-- ==== Sys2Proof/Machine/RingLink.lean ====
section
/-! DEFINITION. The Ring Interface's link and output (Chapter 9): link lock and loss, LINK NOTICE packets, the send
queue's head, and FILL. -/

namespace Sys2Proof.Machine

/-! ### LINK NOTICE packets (R146 to R148) -/

/-- The words of a LINK NOTICE this node originates: its position now, the cause and the repeat number. DESIGN CHOICE (log
entry 18): its kind word carries RESYNC clear and bits 15 to 9 zero, which R149 gives for the node's own FILL only. -/
def State.linkNoticeWords (s : State) (cause number : Word) : List Word :=
  (Packet.linkNotice 0 (positionWord s.address.position) cause number).words

/-- R146, R149: a LINK NOTICE of the node's own, of words `words`, placed for sending behind every packet already
received whole: behind those that wait for a RESET NODE, where there are any. -/
def Ring.placeOwn (r : Ring) (words : List Word) : Ring :=
  match r.held with
  | [] => { r with sendQueue := r.sendQueue ++ [⟨words, true, false⟩] }
  | _ :: _ => { r with held := r.held ++ [.notice words] }

/-- R146: the LINK NOTICE of the node's own that was placed last, where nothing has been placed behind it and it has not
left: the ring without it, and its words. -/
def Ring.takeBack (r : Ring) : Option (Ring × List Word) :=
  match r.held.reverse, r.sendQueue.reverse with
  | [], ⟨words, true, false⟩ :: es => some ({ r with sendQueue := es.reverse }, words)
  | .notice words :: h :: hs, _ => some ({ r with held := (h :: hs).reverse }, words)
  | _, _ => none

/-- A LINK NOTICE of the node's own placed. -/
def State.placeOwn (s : State) (words : List Word) : State := { s with ring := s.ring.placeOwn words }

/-- R146, R147: one LOST notice placed with the next repeat number of the loss record, and counted, and the link-notice
timer started. -/
def State.sendLost (s : State) (r : LossRecord) : State :=
  State.placeOwn
    { s with ring :=
      { s.ring with
        loss := some ⟨saturatingInc r.count, r.nextRepeat + 1⟩
        noticeTimer := some Config.linkNoticePeriod } }
    (s.linkNoticeWords lostCause r.nextRepeat)

/-- R146: lock is lost while LOCKED. A packet partly received is discarded; one received whole may still be to handle. -/
def State.loseLock (s : State) : State :=
  State.sendLost
    { s with ring :=
      { s.ring with
        link := .unlocked
        standing := true
        arriving := []
        linkLosses := saturatingInc s.ring.linkLosses } }
    ⟨0, 0⟩

/-- R148: lock is gained while UNLOCKED with the loss record present. -/
def State.restoreLock (s : State) (r : LossRecord) : State :=
  let s1 : State := { s with ring := { s.ring with link := .locked, standing := false, noticeTimer := none } }
  let s2 := (s1.placeOwn (s1.linkNoticeWords restoredCause r.nextRepeat)).raise .linkRestored (some r.count)
  { s2 with ring := { s2.ring with loss := none } }

/-- R145, R148: lock is gained. While the hard reset pin is held the link stays UNLOCKED (R157). -/
def State.gainLock (s : State) : State :=
  if s.resetPin then s
  else
    match s.ring.link, s.ring.loss with
    | .locked, _ => s
    | .unlocked, none => { s with ring := { s.ring with link := .locked, standing := false } }
    | .unlocked, some r => s.restoreLock r

/-- R146: a loss of lock, which happens while LOCKED only. -/
def State.lossOfLock (s : State) : State :=
  match s.ring.link with
  | .unlocked => s
  | .locked => if s.resetPin then s else s.loseLock

/-- R147: the link-notice timer, if it runs, expires while UNLOCKED with the loss record present. -/
def State.linkNoticeTimerExpiry (s : State) : State :=
  match s.ring.noticeTimer, s.ring.link, s.ring.loss with
  | some _, .unlocked, some r => State.sendLost { s with ring := { s.ring with standing := false } } r
  | some _, .unlocked, none => s
  | some _, .locked, _ => s
  | none, _, _ => s

/-! ### Sending (R149, R151) -/

/-- R149: the packet at the head of the send queue is sent. When it carried the RESET NODE that was answered, the
reset falls due (R118). -/
def State.forwardHead (s : State) : State :=
  match s.ring.sendQueue with
  | [] => s
  | e :: es =>
    State.emit
      { s with ring :=
        { s.ring with sendQueue := es, resetPhase := if e.resets then .due else s.ring.resetPhase } }
      (.packet e.words)

/-- R149, R151: every packet of the send queue sent, in order. -/
def State.sendAll (s : State) : State :=
  { s with
    out := s.out ++ s.ring.sendQueue.map fun e => .packet e.words
    ring :=
      { s.ring with
        sendQueue := []
        resetPhase := if s.ring.sendQueue.any SendEntry.resets then .due else s.ring.resetPhase } }

/-- R149: the words of a FILL the node makes: payload length 0, attribute flags clear, a correct check word. -/
def fillWords : List Word := (Packet.fill 0 []).words

/-- R149, R157: a FILL of the node's own, when no packet waits and the pin is not held. -/
def State.sendFill (s : State) : State :=
  if s.resetPin then s
  else
    match s.ring.sendQueue with
    | [] => s.emit (.packet fillWords)
    | _ :: _ => s

/-! ### The rows -/

/-- LOCK_GAINED (R148). -/
def execLockGained (s : State) : Result := .next s.gainLock

/-- LOSS_OF_LOCK (R146). -/
def execLossOfLock (s : State) : Result := .next s.lossOfLock

/-- LINK_NOTICE_TIMER_EXPIRY (R147). -/
def execLinkNoticeTimerExpiry (s : State) : Result := .next s.linkNoticeTimerExpiry

/-- FORWARD_PACKET (R151). -/
def execForwardPacket (s : State) : Result := .next s.forwardHead

/-- SEND_FILL (R149). -/
def execSendFill (s : State) : Result := .next s.sendFill

end Sys2Proof.Machine
end

