-- ==== Sys2Proof/Machine/Receive.lean ====
section
/-! DEFINITION. What the node does with a packet received whole (Chapter 9, sections 9.2 to 9.4): the pin, the link, a
RESET NODE not yet in effect, overrun, damage, kind, and the handling by the blocks. -/

namespace Sys2Proof.Machine

/-! ### SHOW, ENUM and COLLECT at the node -/

/-- R24, R75, R48: a well-formed SHOW, taken by the Table Banks, the Thermal Monitor and the Frame Buffers in that
order, and ignored by each in LOADING. -/
def State.takeShow (s : State) (k : Word) : State :=
  if s.node = .loading then s else ((s.commitAtShow k).applyPending).framesAtShow k

/-- R130: the room of a COLLECT: the capacity, taken as 1000 when greater, less the used, and 0 when that is more. -/
def collectRoom (capacity : Word) (used : Nat) : Nat := min capacity.toNat Config.maxCapacity - used

/-- R130, R131: a COLLECT at the Reply Queue: the state it leaves and the words drained into it. -/
def State.takeCollect (s : State) (mode value capacity : Word) (used : Nat) : State × List Word :=
  if s.address.inScope mode value then
    let drained := s.queue.drain s.address (collectRoom capacity used)
    ({ s with queue := drained.1 }, drained.2)
  else (s, [])

/-- R101, R113, R118: a CONTROL packet: forwarded as it arrived where it does not concern the node, and otherwise with
the header the Command Unit gives it. The packet of an accepted RESET NODE is marked in the send queue. -/
def State.takeControl (s : State) (h : Header) (code : Word) (params : List Word) : State :=
  if s.address.concerned h.mode h.value then
    let outcome := s.commandUnit h code params
    outcome.1.enqueue
      ⟨(Packet.control outcome.2 code params).words, false, outcome.1.ring.resetPhase == .answered⟩
  else s.forward (Packet.control h code params).words

/-! ### A packet by its judgement (R153 to R156) -/

/-- R155, Table 9-4: a well-formed packet of words `raw`. -/
def State.takeWellFormed (s : State) (raw : List Word) : Packet → State
  | .fill _ _ => s
  | .pixel _ frame line column count samples =>
    (s.takePixelPacket frame line column count samples).forward raw
  | .showFrame _ frame => (s.takeShow frame).forward raw
  | .control h code params => s.takeControl h code params
  | .collect attrs mode value capacity records =>
    let outcome := s.takeCollect mode value capacity records.length
    outcome.1.forward (Packet.collect attrs mode value capacity (records ++ outcome.2)).words
  | .enum attrs next => (s.takePosition next).forward (Packet.enum attrs (nextPosition next)).words
  | .linkNotice _ _ _ _ => s.forward raw

/-- One more damaged packet (R153). -/
def State.countDamaged (s : State) : State :=
  { s with ring := { s.ring with damagedPackets := saturatingInc s.ring.damagedPackets } }

/-- One more unknown packet (R154). -/
def State.countUnknown (s : State) : State :=
  { s with ring := { s.ring with unknownPackets := saturatingInc s.ring.unknownPackets } }

/-- The kind code of a run of words is that of FILL (R151). -/
def isFillKind : List Word → Bool
  | [] => false
  | kind :: _ => kindCode kind == 0

/-- R151: an overrun packet is not acted on and not forwarded, and is counted as damaged unless it is FILL. -/
def State.overrun (s : State) (raw : List Word) : State := if isFillKind raw then s else s.countDamaged

/-- R150 to R155: the handling of one packet received whole, of at most 1027 words. -/
def State.handle (s : State) (raw : List Word) : State :=
  if Config.overrunLimit < forwardedWords s.ring.sendQueue then s.overrun raw
  else
    match judge raw with
    | .damaged => s.countDamaged.forward raw
    | .unknown => s.countUnknown.forward raw
    | .wellFormed p => s.takeWellFormed raw p

/-- R163: the node does not begin handling the next packet until an answered RESET NODE has taken effect; the packet
waits in the holding buffer. -/
def State.takeWhole (s : State) (raw : List Word) : State :=
  if s.ring.resetPhase = .idle then s.handle raw
  else { s with ring := { s.ring with held := s.ring.held ++ [.packet raw] } }

/-! ### RESET NODE takes effect (R118, R163) -/

/-- R146, R149, R163: what waited for a RESET NODE, taken in its turn. -/
def State.takeWaiting (s : State) : Waiting → State
  | .packet raw => s.takeWhole raw
  | .notice words => s.placeOwn words

/-- R163: the reset, once its packet has left the node, and then what waited for it, in order, in LOADING. -/
def State.resetNodeTakesEffect (s : State) : State :=
  match s.ring.resetPhase with
  | .idle => s
  | .answered => s
  | .due =>
    let s1 := s.nodeReset
    s.ring.held.foldl State.takeWaiting { s1 with ring := { s1.ring with held := [] } }

/-! ### A run of words on the ring input (R150) -/

/-- R149, R163: everything ahead of a packet that leaves as it arrives leaves before it: the send queue, and where that
sends the answer of a RESET NODE, what waited for the reset, after it. Each turn after the first takes at least one of
the packets that waited, so `turns` of one more than there are of them is enough. -/
def State.clearTheWay : State → Nat → State
  | s, 0 => s.sendAll
  | s, turns + 1 =>
    let sent := s.sendAll
    if sent.ring.resetPhase = .due then sent.resetNodeTakesEffect.clearTheWay turns else sent

/-- R149, R150: a run of 1028 words and more: its words leave as they arrive, behind everything that came before it, and
it is counted once as damaged. It is never held whole, so it takes no room in the send queue. -/
def State.passThrough (s : State) (raw : List Word) : State :=
  ((s.clearTheWay (s.ring.held.length + 1)).countDamaged).emit (.packet raw)

/-- R150: a run of words, from one packet marker to the next, received while LOCKED. -/
def State.takeRun (s : State) (raw : List Word) : State :=
  let s1 : State := { s with ring := { s.ring with arriving := [] } }
  if Config.maxPacket < raw.length then s1.passThrough raw else s1.takeWhole raw

/-- R146, R158: a packet that comes to be handled while UNLOCKED is the one that stood received whole at the loss, since
nothing is received then: it is handled as if the link were still locked, ahead of the LOST notice placed at the loss. -/
def State.takeStanding (s : State) (raw : List Word) : State :=
  match s.ring.takeBack with
  | none => s
  | some (r, notice) =>
    let t := State.takeRun { s with ring := { r with link := .locked, standing := false } } raw
    State.placeOwn { t with ring := { t.ring with link := .unlocked } } notice

/-- R145, R146, R157: a run of words on the ring input. While the pin is held it passes to the output; while UNLOCKED
nothing is received, and a packet of at most 1027 words is taken only where one may stand received whole. -/
def State.receive (s : State) (raw : List Word) : State :=
  if s.resetPin then s.emit (.packet raw)
  else
    match s.ring.link with
    | .unlocked => if s.ring.standing ∧ raw.length ≤ Config.maxPacket then s.takeStanding raw else s
    | .locked => s.takeRun raw

/-! ### The rows of packets -/

/-- FILL (R149). -/
def execFill (attrs : BitVec 8) (payload : List Word) (s : State) : Result :=
  .next (s.receive (Packet.fill attrs payload).words)

/-- PIXEL (R34). -/
def execPixel (attrs : BitVec 8) (frame line column count : Word) (samples : List Word) (s : State) : Result :=
  .next (s.receive (Packet.pixel attrs frame line column count samples).words)

/-- SHOW (R24). -/
def execShow (attrs : BitVec 8) (frame : Word) (s : State) : Result :=
  .next (s.receive (Packet.showFrame attrs frame).words)

/-- COLLECT (R131). -/
def execCollect (attrs : BitVec 8) (mode value capacity : Word) (records : List Word) (s : State) : Result :=
  .next (s.receive (Packet.collect attrs mode value capacity records).words)

/-- ENUM (R136). -/
def execEnum (attrs : BitVec 8) (next : Word) (s : State) : Result :=
  .next (s.receive (Packet.enum attrs next).words)

/-- LINK_NOTICE (R155). -/
def execLinkNotice (attrs : BitVec 8) (origin cause number : Word) (s : State) : Result :=
  .next (s.receive (Packet.linkNotice attrs origin cause number).words)

/-- DAMAGED_PACKET (R153): the words are judged like any other run of words. -/
def execDamagedPacket (words : List Word) (s : State) : Result := .next (s.receive words)

/-- UNKNOWN_PACKET (R154): the words are judged like any other run of words. -/
def execUnknownPacket (words : List Word) (s : State) : Result := .next (s.receive words)

/-- OVERRUN_PACKET (R151): whether the packet is overrun follows from the send queue. -/
def execOverrunPacket (words : List Word) (s : State) : Result := .next (s.receive words)

/-- RESET_NODE_TAKES_EFFECT (R163). -/
def execResetNodeTakesEffect (s : State) : Result := .next s.resetNodeTakesEffect

end Sys2Proof.Machine
end

