-- ==== Sys2Proof/Machine/Control.lean ====
section
/-! DEFINITION. The rows of CONTROL packets: each is its packet received whole, which goes through the Address
Matcher, the Command Unit's stages and the owner's checks (R101, R102, R111) before its effect. -/

namespace Sys2Proof.Machine

/-- A CONTROL packet carrying a command, received whole. -/
def State.receiveCommand (s : State) (h : Header) (c : Command) : State := s.receive (commandPacket h c).words

/-- IDENTIFY (R142). -/
def execIdentify (h : Header) (s : State) : Result := .next (s.receiveCommand h .identify)

/-- SET_IDENTITY (R141). -/
def execSetIdentity (h : Header) (logicalId groups : Word) (s : State) : Result :=
  .next (s.receiveCommand h (.setIdentity logicalId groups))

/-- WRITE_TABLE (R12). -/
def execWriteTable (h : Header) (table start : Word) (values : List Word) (s : State) : Result :=
  .next (s.receiveCommand h (.writeTable table start values))

/-- READ_TABLE (R13). -/
def execReadTable (h : Header) (bank table start count : Word) (s : State) : Result :=
  .next (s.receiveCommand h (.readTable bank table start count))

/-- COPY_LIVE (R14). -/
def execCopyLive (h : Header) (s : State) : Result := .next (s.receiveCommand h .copyLive)

/-- COMMIT (R19). -/
def execCommit (h : Header) (kind frame : Word) (s : State) : Result := .next (s.receiveCommand h (.commit kind frame))

/-- CANCEL_COMMIT (R22). -/
def execCancelCommit (h : Header) (s : State) : Result := .next (s.receiveCommand h .cancelCommit)

/-- STORE_TABLES (R84). -/
def execStoreTables (h : Header) (s : State) : Result := .next (s.receiveCommand h .storeTables)

/-- LOAD_STORED (R90). -/
def execLoadStored (h : Header) (s : State) : Result := .next (s.receiveCommand h .loadStored)

/-- READ_STATUS (R168). -/
def execReadStatus (h : Header) (s : State) : Result := .next (s.receiveCommand h .readStatus)

/-- READ_TEMPERATURE (R79). -/
def execReadTemperature (h : Header) (s : State) : Result := .next (s.receiveCommand h .readTemperature)

/-- SET_STATE (R166). -/
def execSetState (h : Header) (target pattern red green blue : Word) (s : State) : Result :=
  .next (s.receiveCommand h (.setState target pattern red green blue))

/-- SET_NOTICES (R129). -/
def execSetNotices (h : Header) (mask : Word) (s : State) : Result := .next (s.receiveCommand h (.setNotices mask))

/-- CLEAR_COUNTERS (R172). -/
def execClearCounters (h : Header) (s : State) : Result := .next (s.receiveCommand h .clearCounters)

/-- RESET_NODE (R163). -/
def execResetNode (h : Header) (s : State) : Result := .next (s.receiveCommand h .resetNode)

/-- UNKNOWN_COMMAND (R106). -/
def execUnknownCommand (h : Header) (code : Word) (params : List Word) (s : State) : Result :=
  .next (s.receive (Packet.control h code params).words)

end Sys2Proof.Machine
end

