-- ==== Sys2Proof/Machine/Scan.lean ====
section
/-! DEFINITION. The Scan Output (Chapter 3, sections 3.5 and 3.6): the refresh boundary, the refresh code in use, the
output source, and what the row and column outputs carry. -/

namespace Sys2Proof.Machine

/-- R62: a forced-dark condition holds. -/
def State.forcedDark (s : State) : Bool :=
  match s.node with
  | .loading => true
  | .standby => true
  | .active => s.frames.presentation == .dark || s.thermal.cutoff == .cut
  | .test => s.frames.presentation == .dark || s.thermal.cutoff == .cut

/-- R61: the output source for the cycle that begins at a boundary. -/
def State.chooseSource (s : State) : Source :=
  if s.forcedDark then .dark
  else if s.node = .test then
    match s.scan.pattern with
    | some p => .pattern p
    | none => .dark
  else .picture

/-- R60: the refresh code in use from a boundary on. -/
def State.nextRefreshCode (s : State) : BitVec 2 :=
  if s.node = .loading then s.scan.refreshCode else s.banks.live.refreshCode s.activeProfile

/-- R52, R60, R61: a refresh boundary. No cycle runs while the hard reset pin is held (R58), so none ends then. -/
def State.refreshBoundary (s : State) : State :=
  if s.resetPin then s
  else
    let s1 : State := { s with frames := s.frames.present }
    let code := s1.nextRefreshCode
    { s1 with scan := { s1.scan with refreshCode := code, cycleCode := code, source := s1.chooseSource } }

/-- REFRESH_BOUNDARY (R52). -/
def execRefreshBoundary (s : State) : Result := .next s.refreshBoundary

/-! ### The LED outputs -/

/-- R63: the level a pattern gives a colour (0 red, 1 green, 2 blue) at row `r` and column `c`. -/
def Pattern.level : Pattern → Nat → Nat → Nat → Word
  | .solid red green blue, _, _, colour => if colour = 0 then red else if colour = 1 then green else blue
  | .columnRamp, _, c, _ => BitVec.ofNat 16 (2047 * c)
  | .checker, r, c, _ => if (r + c) % 2 = 0 then 0xFFFF#16 else 0#16

/-- R61, R62: the drive level the outputs carry for a colour at row `r` and column `c` in the cycle in progress. -/
def State.driveLevel (s : State) (r c colour : Nat) : Word :=
  match s.scan.source with
  | .dark => 0
  | .pattern p => p.level r c colour
  | .picture => (s.frames.contentOf .shown).getD ((r * 32 + c) * 3 + colour) 0

/-- R58: the 96 column levels of row slot `r`. -/
def State.rowLevels (s : State) (r : Nat) : List Word :=
  (List.range 96).map fun i => s.driveLevel r (i / 3) (i % 3)

/-- Table 3-3: refresh cycles per second of a refresh code. -/
def cyclesPerSecond (code : BitVec 2) : Nat := 960 * (code.toNat + 1)

end Sys2Proof.Machine
end

