-- ==== Sys2Proof/Machine/Dispatch.lean ====
section
/-! DEFINITION. The meaning of each row of the opcode table, one arm a row. -/

namespace Sys2Proof.Machine

def exec (i : Instr) (s : State) : Host.Outcome State Fault Refusal :=
  match i with
  | .hardResetAsserted => Sys2Proof.Machine.execHardResetAsserted s
  | .hardResetRelease => Sys2Proof.Machine.execHardResetRelease s
  | .lockGained => Sys2Proof.Machine.execLockGained s
  | .lossOfLock => Sys2Proof.Machine.execLossOfLock s
  | .linkNoticeTimerExpiry => Sys2Proof.Machine.execLinkNoticeTimerExpiry s
  | .fill attrs payload => Sys2Proof.Machine.execFill attrs payload s
  | .pixel attrs frame line column count samples => Sys2Proof.Machine.execPixel attrs frame line column count samples s
  | .showFrame attrs frame => Sys2Proof.Machine.execShow attrs frame s
  | .collect attrs mode value capacity records => Sys2Proof.Machine.execCollect attrs mode value capacity records s
  | .enum attrs next => Sys2Proof.Machine.execEnum attrs next s
  | .linkNotice attrs origin cause number => Sys2Proof.Machine.execLinkNotice attrs origin cause number s
  | .damagedPacket words => Sys2Proof.Machine.execDamagedPacket words s
  | .unknownPacket words => Sys2Proof.Machine.execUnknownPacket words s
  | .overrunPacket words => Sys2Proof.Machine.execOverrunPacket words s
  | .forwardPacket => Sys2Proof.Machine.execForwardPacket s
  | .sendFill => Sys2Proof.Machine.execSendFill s
  | .identify h => Sys2Proof.Machine.execIdentify h s
  | .setIdentity h logicalId groups => Sys2Proof.Machine.execSetIdentity h logicalId groups s
  | .writeTable h table start values => Sys2Proof.Machine.execWriteTable h table start values s
  | .readTable h bank table start count => Sys2Proof.Machine.execReadTable h bank table start count s
  | .copyLive h => Sys2Proof.Machine.execCopyLive h s
  | .commit h kind frame => Sys2Proof.Machine.execCommit h kind frame s
  | .cancelCommit h => Sys2Proof.Machine.execCancelCommit h s
  | .storeTables h => Sys2Proof.Machine.execStoreTables h s
  | .loadStored h => Sys2Proof.Machine.execLoadStored h s
  | .readStatus h => Sys2Proof.Machine.execReadStatus h s
  | .readTemperature h => Sys2Proof.Machine.execReadTemperature h s
  | .setState h target pattern red green blue => Sys2Proof.Machine.execSetState h target pattern red green blue s
  | .setNotices h mask => Sys2Proof.Machine.execSetNotices h mask s
  | .clearCounters h => Sys2Proof.Machine.execClearCounters h s
  | .resetNode h => Sys2Proof.Machine.execResetNode h s
  | .unknownCommand h code params => Sys2Proof.Machine.execUnknownCommand h code params s
  | .resetNodeTakesEffect => Sys2Proof.Machine.execResetNodeTakesEffect s
  | .holdTimerExpiry => Sys2Proof.Machine.execHoldTimerExpiry s
  | .sampleTimerExpiry => Sys2Proof.Machine.execSampleTimerExpiry s
  | .sensorAnswer reading => Sys2Proof.Machine.execSensorAnswer reading s
  | .answerLimitExpiry => Sys2Proof.Machine.execAnswerLimitExpiry s
  | .refreshBoundary => Sys2Proof.Machine.execRefreshBoundary s
  | .eraseCompletion => Sys2Proof.Machine.execEraseCompletion s
  | .programCompletion defects => Sys2Proof.Machine.execProgramCompletion defects s
  | .verifyCompletion => Sys2Proof.Machine.execVerifyCompletion s
  | .loadCompletion => Sys2Proof.Machine.execLoadCompletion s
  | .startupReadCompletion => Sys2Proof.Machine.execStartupReadCompletion s

end Sys2Proof.Machine
end

