-- ==== Sys2Proof/WellFormed.lean ====
section
/-! DEFINITION. Which terms of the syntax stand for something that can arrive: a packet's fields agree with the
lengths its kind gives (R153, Table 9-3), and a row stands for its own case of R150 to R154 and R106. -/

namespace Sys2Proof

/-- The refusal map is four words in GROUP and ALL modes and absent in the others (Table 9-8). -/
def Header.wf (h : Header) : Bool := h.refusalMap.length == if isMulticast h.mode then 4 else 0

/-- The fields agree with each other and fit a payload of 1024 words (Table 9-3). -/
def Packet.wf : Packet → Bool
  | .fill _ payload => decide (payload.length ≤ Config.maxPayload)
  | .pixel _ _ _ _ count samples =>
    samples.length == 3 * count.toNat && decide (samples.length + 4 ≤ Config.maxPayload)
  | .showFrame _ _ => true
  | .control h _ params => h.wf && decide (params.length ≤ Config.maxParams)
  | .collect _ _ _ _ records => decide (records.length + 4 ≤ Config.maxPayload)
  | .enum _ _ => true
  | .linkNotice _ _ _ _ => true

/-- WRITE TABLE carries 1 to 256 values (R12); the other commands have no such condition. -/
def Command.wf : Command → Bool
  | .writeTable _ _ values => decide (1 ≤ values.length) && decide (values.length ≤ Config.maxWrite)
  | .identify => true
  | .setIdentity .. => true
  | .readTable .. => true
  | .copyLive => true
  | .commit .. => true
  | .cancelCommit => true
  | .storeTables => true
  | .loadStored => true
  | .readStatus => true
  | .readTemperature => true
  | .setState .. => true
  | .setNotices .. => true
  | .clearCounters => true
  | .resetNode => true

/-- A run of words that the holding buffer holds: at least one, at most 1027 (R150). -/
def isWhole (words : List Word) : Bool := !words.isEmpty && decide (words.length ≤ Config.maxPacket)

/-- A row's operands are ones that row can come with. Where they are not, its meaning still follows the words: the
Ring Interface judges them itself. -/
def Instr.wf : Instr → Bool
  | .hardResetAsserted => true
  | .hardResetRelease => true
  | .lockGained => true
  | .lossOfLock => true
  | .linkNoticeTimerExpiry => true
  | .fill attrs payload => (Packet.fill attrs payload).wf
  | .pixel attrs frame line column count samples => (Packet.pixel attrs frame line column count samples).wf
  | .showFrame attrs frame => (Packet.showFrame attrs frame).wf
  | .collect attrs mode value capacity records => (Packet.collect attrs mode value capacity records).wf
  | .enum attrs next => (Packet.enum attrs next).wf
  | .linkNotice attrs origin cause number => (Packet.linkNotice attrs origin cause number).wf
  | .damagedPacket words => !words.isEmpty && judge words == .damaged
  | .unknownPacket words => judge words == .unknown
  | .overrunPacket words => isWhole words
  | .forwardPacket => true
  | .sendFill => true
  | .identify h => h.wf
  | .setIdentity h _ _ => h.wf
  | .writeTable h table start values => h.wf && (Command.writeTable table start values).wf
  | .readTable h _ _ _ _ => h.wf
  | .copyLive h => h.wf
  | .commit h _ _ => h.wf
  | .cancelCommit h => h.wf
  | .storeTables h => h.wf
  | .loadStored h => h.wf
  | .readStatus h => h.wf
  | .readTemperature h => h.wf
  | .setState h _ _ _ _ _ => h.wf
  | .setNotices h _ => h.wf
  | .clearCounters h => h.wf
  | .resetNode h => h.wf
  | .unknownCommand h code params =>
    h.wf && decide (params.length ≤ Config.maxParams) && (Command.parse code params).isNone
  | .resetNodeTakesEffect => true
  | .holdTimerExpiry => true
  | .sampleTimerExpiry => true
  | .sensorAnswer _ => true
  | .answerLimitExpiry => true
  | .refreshBoundary => true
  | .eraseCompletion => true
  | .programCompletion defects => defects.all fun d => decide (d.index < d.table.entries)
  | .verifyCompletion => true
  | .loadCompletion => true
  | .startupReadCompletion => true

end Sys2Proof
end

