-- ==== Sys2Proof/Safety.lean ====
section
/-! DEFINITION. What the manual says of every moment of the part: the invariants that claims use. -/

namespace Sys2Proof.Machine

/-! ### Frame Buffers -/

/-- How many buffers hold a role. -/
def roleCount (f : Frames) (r : Role) : Nat := f.buffers.countP fun b => b.role == r

/-- A buffer as R45 describes it: 3072 levels, a FREE one untagged, a PENDING one tagged. -/
abbrev Buffer.Ok (b : Buffer) : Prop :=
  b.content.length = 3072 ∧ (b.role = .free → b.tag = none) ∧ (b.role = .pending → b.tag.isSome)

/-- R45: exactly one SHOWN buffer and one FILLING buffer; the third is FREE or PENDING. -/
abbrev FramesOk (f : Frames) : Prop :=
  roleCount f .shown = 1 ∧ roleCount f .filling = 1 ∧ f.buffer0.Ok ∧ f.buffer1.Ok ∧ f.buffer2.Ok

/-! ### Reply Queue -/

/-- The notice kinds in the list and in the backlog. -/
def noticeKinds (q : ReplyQueue) : List NoticeKind :=
  q.entries.filterMap Entry.noticeKind ++ q.backlog.map Held.kind

/-- R119, R125, R127: at most 12 entries and 4 notice records; no kind twice across list and backlog; no room for a
notice while the backlog holds a kind. -/
abbrev QueueOk (q : ReplyQueue) : Prop :=
  q.entries.length ≤ Config.maxEntries ∧ noticeCount q.entries ≤ Config.maxNotices ∧ (noticeKinds q).Nodup ∧
    (q.backlog ≠ [] → hasNoticeRoom q.entries = false)

/-- A record in the replay cache is a command reply with the REPLAY flag clear (R99). -/
def CacheOk (c : CommandUnit) : Prop :=
  ∀ r, c.replayCache = some r → r.replay = false ∧ ∃ kind body, r.content = .reply kind body

/-! ### Outputs -/

/-- R62: the outputs are dark while a forced-dark condition holds. -/
abbrev OutputsOk (s : State) : Prop := s.forcedDark = true → s.scan.source = .dark

/-! ### Tables, store, bands and node state -/

/-- Every entry of every table is in range (R1, R2). -/
def Bank.inRangeAll (b : Bank) : Bool := tableOrder.all fun t => (rangeFailure t 0 (b.table t)).isNone

/-- R1, R10, R11: both banks whole and in range, the live bank valid; while a commit is outstanding the staged bank is
valid and no load is READING. -/
abbrev BanksOk (s : State) : Prop :=
  s.banks.staged.shaped = true ∧ s.banks.staged.inRangeAll = true ∧ s.banks.live.shaped = true ∧
    validate s.banks.live = none ∧
    (s.banks.commit.outstanding = true → validate s.banks.staged = none ∧ s.store.unit.isReading = false)

/-- R9: outside the start-up read a table not in the dirty set is the same in both banks. -/
def DirtyOk (s : State) : Prop :=
  s.store.unit ≠ .startupRead → ∀ t, isDirty s.banks.dirty t = false → s.banks.staged.table t = s.banks.live.table t

/-- R81, R83, R85, R86: a VALID record is what its image is judged to be; records are UNREAD exactly during the
start-up read; a store's target is INVALID, with a generation from 1 on and, in VERIFY, a programmed memory; a load's
source is VALID. -/
def StoreOk (st : Store) : Prop :=
  (∀ i g, st.record i = .valid g → (st.image i).judged = .valid g) ∧
  (∀ i, st.record i = .unread ↔ st.unit = .startupRead) ∧
  (∀ p t g, st.unit = .storing p t g →
    st.record t = .invalid ∧ 1 ≤ g.toNat ∧ (p = .verify → ∃ tables, st.image t = .programmed tables)) ∧
  (∀ i, st.unit = .reading (some i) → ∃ g, st.record i = .valid g)

/-- R122: a reservation is in the list exactly while the store unit is STORING or READING. -/
def ReservationOk (s : State) : Prop :=
  reservationCount s.queue.entries = if s.store.unit.isStoring || s.store.unit.isReading then 1 else 0

/-- R74, R76, R67: the applied band lies below the live count; a pending band lies below it and differs from the
applied band; the latest reading is a good one. -/
abbrev ThermalOk (s : State) : Prop :=
  s.thermal.applied < s.banks.live.bandCount ∧
    (∀ b ∈ s.thermal.pending, b ≠ s.thermal.applied ∧ b < s.banks.live.bandCount) ∧
    (∀ t ∈ s.thermal.reading, -80 ≤ t ∧ t ≤ 250)

/-- R54, R67, R83, R162: the store unit is STARTUP READ exactly in LOADING, where the Thermal Monitor holds its reset
values; the pin held means LOADING; the sample timer runs outside LOADING; the hold timer runs in ACTIVE and TEST only
and not in DARK; TEST has a pattern. -/
abbrev NodeOk (s : State) : Prop :=
  (s.node = .loading ↔ s.store.unit = .startupRead) ∧ (s.node = .loading → s.thermal = resetThermal) ∧
    (s.resetPin = true → s.node = .loading) ∧ (s.node ≠ .loading → s.thermal.sampleTimer.isSome) ∧
    (s.frames.holdTimer.isSome → s.node.showsPicture = true ∧ s.frames.presentation ≠ .dark) ∧
    (s.node.showsPicture = true → s.frames.presentation = .live → s.frames.holdTimer.isSome) ∧
    (s.node = .test → s.scan.pattern.isSome)

/-- The tables, the store, the bands and the node state together: each leans on the others. -/
def CoreOk (s : State) : Prop :=
  BanksOk s ∧ DirtyOk s ∧ StoreOk s.store ∧ ReservationOk s ∧ ThermalOk s ∧ NodeOk s

/-! ### Ring Interface -/

/-- R145 to R148, R157, R163: the loss record and the link-notice timer go together and with UNLOCKED; a packet may
stand received whole only after a loss; a RESET NODE that is answered is in the send queue, once; packets and notices are
held only while a reset is outstanding; while the pin is held the Ring Interface has its reset values. -/
abbrev RingOk (s : State) : Prop :=
  (s.ring.loss.isSome ↔ s.ring.noticeTimer.isSome) ∧ (s.ring.loss.isSome → s.ring.link = .unlocked) ∧
    (s.ring.standing = true → s.ring.loss.isSome) ∧
    (s.ring.sendQueue.countP SendEntry.resets = if s.ring.resetPhase = .answered then 1 else 0) ∧
    (s.ring.held ≠ [] → s.ring.resetPhase ≠ .idle) ∧ (s.resetPin = true → s.ring = resetRing)

/-- A packet that waits is no longer than the holding buffer (R150). -/
def Waiting.fits : Waiting → Bool
  | .packet words => decide (words.length ≤ Config.maxPacket)
  | .notice _ => true

/-- R151: the forwarded packets in the send queue hold at most 4096 words; no packet held is longer than a packet. -/
abbrev SendQueueOk (r : Ring) : Prop :=
  forwardedWords r.sendQueue ≤ Config.sendQueueWords ∧ ∀ w ∈ r.held, w.fits = true

/-! ### What a packet meets and leaves

The words claims use for a packet's way through the node: written from the manual's tables, not from the meanings. -/

/-- The node takes packets in: the pin is released, the link LOCKED, no RESET NODE is awaited, and the send queue has
room (R145, R150, R151, R157, R163). -/
abbrev Receiving (s : State) : Prop :=
  s.resetPin = false ∧ s.ring.link = .locked ∧ s.ring.resetPhase = .idle ∧ forwardedWords s.ring.sendQueue ≤ 3069

/-- The packet handled has left the holding buffer, and stands last in the send queue with these words (R149). -/
def State.sentOn (s : State) (words : List Word) : State :=
  { s with ring := { s.ring with arriving := [], sendQueue := s.ring.sendQueue ++ [⟨words, false, false⟩] } }

/-- R146, R149: the ring with a LINK NOTICE of the node's own, of these words, placed: last in the send queue, or, while
something waits for a RESET NODE, last among what waits. -/
def Ring.withNotice (r : Ring) (words : List Word) : Ring :=
  if r.held = [] then { r with sendQueue := r.sendQueue ++ [⟨words, true, false⟩] }
  else { r with held := r.held ++ [.notice words] }

/-- Table 8-3: a CONTROL packet concerns the node. -/
def AddressedTo (id : Identity) (h : Header) : Prop :=
  (h.mode = 1#16 ∧ ∃ p, id.position = some p ∧ p.val = h.value.toNat) ∨
  (h.mode = 2#16 ∧ ∃ i, id.logicalId = some i ∧ i.val = h.value.toNat) ∨
  (h.mode = 3#16 ∧ h.value.toNat < 16 ∧ id.groups.getLsbD h.value.toNat = true) ∨
  h.mode = 4#16

/-- R103, R104, R112: the packet passes the conflict and sequence stages, or the multicast duplicate test. -/
def SequencePasses (c : CommandUnit) (h : Header) : Prop :=
  if h.mode = 3#16 ∨ h.mode = 4#16 then
    h.attrs.getLsbD 0 = true ∨ c.multicastLast ≠ some (h.sequence.setWidth 8)
  else
    h.disposition = 0#16 ∧
      (h.attrs.getLsbD 0 = true ∨ c.unicastLast = none ∨
        ∃ l, c.unicastLast = some l ∧ h.sequence.setWidth 8 = l + 1#8)

/-- A CONTROL packet under this header is taken in, concerns the node, and comes to its command's own stages. -/
abbrev Offered (s : State) (h : Header) : Prop :=
  Receiving s ∧ h.wf = true ∧ AddressedTo s.address h ∧ SequencePasses s.commands h

/-- R109, R113: how an accepting node leaves the header. -/
def acceptedHeader (h : Header) : Header :=
  if h.mode = 3#16 ∨ h.mode = 4#16 then { h with accepts := saturatingInc h.accepts }
  else { h with disposition := 1#16 }

/-- R110, R113: how a refusing node at a position leaves the header; `d` is the disposition's code. -/
def refusedHeader (h : Header) (position : Option (Fin 64)) (d : Word) : Header :=
  if h.mode = 3#16 ∨ h.mode = 4#16 then
    { h with
      refuses := saturatingInc h.refuses
      refusalMap :=
        match position with
        | none => h.refusalMap
        | some p => markPosition h.refusalMap p.val }
  else { h with disposition := d }

/-- The word that opens a reply's body: bits 7 to 0 the sequence, bits 15 to 8 the command code (R101, Table 9-14). -/
def openingWord (h : Header) (code : Nat) : Word := BitVec.ofNat 16 (256 * code + h.sequence.toNat % 256)

/-- The sequences as the acceptance of a packet sets them (R109, R111). -/
def CommandUnit.withSequence (c : CommandUnit) (h : Header) : CommandUnit :=
  if h.mode = 3#16 ∨ h.mode = 4#16 then { c with multicastLast := some (h.sequence.setWidth 8) }
  else { c with unicastLast := some (h.sequence.setWidth 8) }

/-- R99, R109, R111: what every acceptance leaves, around `effect`, the state with the command's own effect alone: the
sequence set, the reply appended, and, for a unicast packet, the replay cache holding the reply or emptied; and the
packet sent on with the acceptance in it. Only the packet of RESET NODE is marked (R118). -/
def acceptance (effect : State) (h : Header) (c : Command) (reply : Option Record) : State :=
  { effect with
    commands :=
      if h.mode = 3#16 ∨ h.mode = 4#16 then effect.commands.withSequence h
      else { effect.commands.withSequence h with replayCache := reply }
    queue := { effect.queue with entries := effect.queue.entries ++ reply.toList.map Entry.record }
    ring :=
      { effect.ring with
        arriving := []
        sendQueue :=
          effect.ring.sendQueue ++ [⟨(Packet.control (acceptedHeader h) c.code c.params).words, false, c == .resetNode⟩] } }

/-- R110, R111: what a refusal with that disposition code leaves: the packet sent on with the refusal in it. -/
def refusal (s : State) (h : Header) (code : Word) (params : List Word) (d : Word) : State :=
  s.sentOn (Packet.control (refusedHeader h s.address.position d) code params).words

/-! ### Tables, in the words claims use -/

/-- Tables 1-1 to 1-5, R2 to R8: `w` is in range for entry `i` of the table. -/
def EntryInRange (t : TableName) (i : Nat) (w : Word) : Prop :=
  match t with
  | .curve => i < 99
  | .gain => i < 3072 ∧ w.toNat ≤ 8191
  | .profile => i < 16 ∧ (i % 4 ≠ 3 → w.toNat ≤ 4096) ∧ (i % 4 = 3 → w.toNat ≤ 3)
  | .bands =>
    (i = 0 ∧ 1 ≤ w.toNat ∧ w.toNat ≤ 6) ∨ ((1 ≤ i ∧ i ≤ 5 ∨ i = 13) ∧ -80 ≤ w.toInt ∧ w.toInt ≤ 250) ∨
      (i = 6 ∧ 1 ≤ w.toNat ∧ w.toNat ≤ 30) ∨ (7 ≤ i ∧ i ≤ 12 ∧ w.toNat ≤ 3) ∨
      (i = 14 ∧ 2 ≤ w.toNat ∧ w.toNat ≤ 40)
  | .window => (i ≤ 1 ∧ w.toNat ≤ 4064) ∨ (i = 2 ∧ w.toNat ≤ 1)
  | .timing =>
    (i = 0 ∧ 20 ≤ w.toNat ∧ w.toNat ≤ 2000) ∨ (i = 1 ∧ w.toNat ≤ 60000) ∨
      (i = 2 ∧ 20 ≤ w.toNat ∧ w.toNat ≤ 1000) ∨ (i = 3 ∧ w.toNat ≤ 5) ∨ (i = 4 ∧ 1 ≤ w.toNat ∧ w.toNat ≤ 2)

/-- One check of commit validation: the failure point it reports and what it asks (R15). -/
structure Check where
  point : FailurePoint
  holds : Prop

/-- R15, R2: the range checks of a table, in index order. -/
def rangeChecks (t : TableName) (entries : List Word) : List Check :=
  (List.range entries.length).map fun i => ⟨⟨t, i⟩, EntryInRange t i (entries.getD i 0)⟩

/-- R16: the relations of CURVE, by colour and then by knot. -/
def curveChecks (b : Bank) : List Check :=
  (List.range 3).flatMap fun colour => (List.range 32).map fun j =>
    ⟨⟨.curve, colour * 33 + (j + 1)⟩,
      (b.curve.getD (colour * 33 + j) 0).toNat ≤ (b.curve.getD (colour * 33 + (j + 1)) 0).toNat⟩

/-- R16: the relations of BANDS: the pairs of thresholds in use, then the cutoff, then the cutoff hysteresis. -/
def bandsChecks (b : Bank) : List Check :=
  let n := (b.bands.getD 0 0).toNat
  let threshold (i : Nat) : Int := (b.bands.getD i 0).toInt
  let h : Int := (b.bands.getD 6 0).toNat
  let cutoff := (b.bands.getD 13 0).toInt
  let cutoffHysteresis : Int := (b.bands.getD 14 0).toNat
  ((List.range (n - 2)).map fun j => ⟨⟨.bands, j + 2⟩, threshold (j + 2) - threshold (j + 1) > h⟩) ++
    [⟨⟨.bands, 13⟩, 1 < n → cutoff > threshold (n - 1) + h⟩, ⟨⟨.bands, 14⟩, -80 ≤ cutoff - cutoffHysteresis⟩]

/-- R15, R16: every check of commit validation, in the order in which it is taken. -/
def commitChecks (b : Bank) : List Check :=
  rangeChecks .curve b.curve ++ curveChecks b ++ rangeChecks .gain b.gain ++ rangeChecks .profile b.profile ++
    rangeChecks .bands b.bands ++ bandsChecks b ++ rangeChecks .window b.window ++ rangeChecks .timing b.timing ++
    [⟨⟨.timing, 3⟩, (b.timing.getD 3 0).toNat < (b.bands.getD 0 0).toNat⟩]

/-- R15: commit validation passes. -/
def PassesValidation (b : Bank) : Prop := ∀ c ∈ commitChecks b, c.holds

/-- R15: commit validation ends at the first check that fails, with its failure point. -/
def FailsValidationAt (b : Bank) (p : FailurePoint) : Prop :=
  ∃ before c after, commitChecks b = before ++ c :: after ∧ (∀ x ∈ before, x.holds) ∧ ¬ c.holds ∧ c.point = p

/-- R81, R152: the image is valid with generation `g`: it holds a generation from 1 on and six whole tables that pass
commit validation, and its check word is the CRC over them. -/
def ImageIsValid (m : Image) (g : BitVec 32) : Prop :=
  ∃ (tables : Bank) (check : Word), m = .written g tables check ∧ 1 ≤ g.toNat ∧ tables.shaped = true ∧
    PassesValidation tables ∧
    check =
      crc ([(g >>> 16).setWidth 16, g.setWidth 16] ++ tables.curve ++ tables.gain ++ tables.profile ++ tables.bands ++
        tables.window ++ tables.timing)

/-! ### What the blocks' events meet and leave, in the words claims use -/

/-- The staged bank is locked (R10). -/
def StagedLocked (s : State) : Prop := s.banks.commit ≠ .none ∨ ∃ source, s.store.unit = .reading source

/-- Table 8-4: the scope of a COLLECT matches the node. -/
def InScope (id : Identity) (mode value : Word) : Prop :=
  (mode = 1#16 ∧ ∃ p, id.position = some p ∧ p.val = value.toNat) ∨
  (mode = 3#16 ∧ value.toNat < 16 ∧ id.groups.getLsbD value.toNat = true) ∨
  mode = 4#16

/-- R32: the wall pixel at line `l` and column `x` lies in the tile's window. -/
def WallPixelInWindow (b : Bank) (l x : Nat) : Prop :=
  b.originRow ≤ l ∧ l ≤ b.originRow + 31 ∧ b.originColumn ≤ x ∧ x ≤ b.originColumn + 31

/-- R38 to R40, Table 2-3: the drive level of a sample word of one colour at row `r` and column `c` of the tile. -/
def driveLevelOf (b : Bank) (profile r c colour : Nat) (sample : Word) : Word :=
  let g := min 1023 (min 1023 sample.toNat * (b.gain.getD ((r * 32 + c) * 3 + colour) 0).toNat / 4096)
  let low := (b.curve.getD (colour * 33 + g / 32) 0).toNat
  let high := (b.curve.getD (colour * 33 + g / 32 + 1) 0).toNat
  let level := low + (high - low) * (g % 32) / 32
  BitVec.ofNat 16 (level * (b.profile.getD (4 * profile + colour) 0).toNat / 4096)

/-- R31 to R33, R38 to R41: `new` is `old` with the pixels of a packet that lie in the window corrected and written: the
element at row `r` and column `c` shows the wall pixel that the window and the orientation put there. -/
def Intaken (s : State) (line column count : Word) (samples old new : List Word) : Prop :=
  new.length = 3072 ∧
  ∀ r c colour, r < 32 → c < 32 → colour < 3 →
    let rotated := s.banks.live.window.getD 2 0 = 1#16
    let l := s.banks.live.originRow + if rotated then 31 - r else r
    let x := s.banks.live.originColumn + if rotated then 31 - c else c
    new.getD ((r * 32 + c) * 3 + colour) 0 =
      if line.toNat = l ∧ column.toNat ≤ x ∧ x < column.toNat + count.toNat then
        driveLevelOf s.banks.live (s.banks.live.bandMap s.thermal.applied) r c colour
          (samples.getD (3 * (x - column.toNat) + colour) 0)
      else old.getD ((r * 32 + c) * 3 + colour) 0

/-- A buffer of these holds the role. -/
def HasRole (f : Frames) (r : Role) : Prop := f.buffer0.role = r ∨ f.buffer1.role = r ∨ f.buffer2.role = r

/-- The three buffers, each changed by `g`. -/
def eachBuffer (f : Frames) (g : Buffer → Buffer) : Frames :=
  { f with buffer0 := g f.buffer0, buffer1 := g f.buffer1, buffer2 := g f.buffer2 }

/-- R36, R51: the content of the newest presented or presentable frame. -/
def NewestContent (f : Frames) (content : List Word) : Prop :=
  ∃ b, (b = f.buffer0 ∨ b = f.buffer1 ∨ b = f.buffer2) ∧ b.content = content ∧
    (b.role = .pending ∨ b.role = .shown ∧ ¬ HasRole f .pending)

/-- R23, R77: the state after a commit application. -/
def afterCommit (s : State) : State :=
  let bands := s.banks.dirty.getLsbD 3
  let band :=
    match s.thermal.sensor, s.thermal.reading with
    | .ok, some t => placeFresh s.banks.staged t
    | _, _ => s.banks.staged.fallbackBand
  let queue :=
    if bands = true ∧ band ≠ s.thermal.applied then
      s.queue.raise s.address .bandChanged (some (BitVec.ofNat 16 band))
    else s.queue
  { s with
    banks := { s.banks with live := s.banks.staged, dirty := 0#6, commit := .none }
    thermal := if bands = true then { s.thermal with applied := band, pending := none } else s.thermal
    queue := queue.raise s.address .commitApplied (some (s.banks.dirty.setWidth 16)) }

/-- R75: the state after the pending band, if there is one, is applied. -/
def afterBand (s : State) : State :=
  match s.thermal.pending with
  | none => s
  | some b =>
    { s with
      thermal := { s.thermal with applied := b, pending := none }
      queue := s.queue.raise s.address .bandChanged (some (BitVec.ofNat 16 b)) }

/-- Table 1-8: what a SHOW that finds a commit due leaves. -/
def afterDue (s : State) (target : CommitTarget) : State :=
  if s.store.unit.isStoring = true then { s with banks := { s.banks with commit := .deferred target } }
  else afterCommit s

/-- R24, R25, Table 1-8: the state after the Table Banks have acted on a SHOW of frame `k`. -/
def afterCommitTest (s : State) (k : Word) : State :=
  match s.banks.commit with
  | .none => s
  | .deferred target => afterDue s target
  | .pending .next => afterDue s .next
  | .pending (.frame f) => if (k - f).toNat ≤ 32767 then afterDue s (.frame f) else s

end Sys2Proof.Machine
end

