-- ==== Sys2Proof/Certificates/Slice0/Obligations.lean ====
section
/-! DEFINITION. The statements for the provers. -/

section

open Sys2Proof Sys2Proof.Machine

/-! ### The machine and the wire -/

/-- A step carries out the command at the front of the queue, on the state with the queue's rest (the shape of a block;
packets are handled in order, R150). -/
def Obligations.StepRunsFrontCommand : Prop :=
  ∀ (c : Instr) (rest : List Instr) (s : State),
    step { s with pending := c :: rest } = exec c { s with pending := rest }

/-- Runs of words written out from Tables 9-5 to 9-13 and R152 are the rows they stand for. -/
def Obligations.SpelledPacketsAreTheirRows : Prop :=
  rowOfWords [0x0000, 0x0000, 0x84C0] = .fill 0 [] ∧
  rowOfWords [0x0012, 0x0001, 0x1234, 0x6A3F] = .showFrame 0 0x1234 ∧
  rowOfWords [0x0031, 0x0001, 0x0005, 0xCF3A] = .enum 0 5 ∧
  rowOfWords [0x0032, 0x0003, 0x0006, 0x0001, 0x0002, 0xD129] = .linkNotice 0 6 1 2 ∧
  rowOfWords [0x0011, 0x0007, 700, 40, 92, 1, 600, 530, 1000, 0x3975] = .pixel 0 700 40 92 1 [600, 530, 1000] ∧
  rowOfWords [0x0022, 0x0004, 0x0004, 0x0000, 60, 0x0000, 0x63DD] = .collect 0 4 0 60 [] ∧
  rowOfWords [0x0021, 0x0008, 1, 5, 20, 0x0030, 0, 0, 0, 0, 0xD147] = .readStatus ⟨0, 1, 5, 20, 0, 0, 0, []⟩ ∧
  rowOfWords [0x0121, 0x000E, 4, 0, 7, 0x0013, 0, 0, 0, 0, 0, 0, 0, 2, 2, 900, 0x2410] =
    .commit ⟨1, 4, 0, 7, 0, 0, 0, [0, 0, 0, 0]⟩ 2 900 ∧
  rowOfWords [0x0055, 0x0000, 0x31FE] = .unknownPacket [0x0055, 0x0000, 0x31FE] ∧
  rowOfWords [0x0012, 0x0001, 0x1234, 0x6A3E] = .damagedPacket [0x0012, 0x0001, 0x1234, 0x6A3E]

/-- The words of every well-formed packet row are read back as that row, every operand at every value (R159). Whether a
packet is overrun is no property of its words. -/
def Obligations.PacketRowsRoundTrip : Prop :=
  ∀ (i : Instr) (ws : List Word), i.wf = true → i.words = some ws → (∀ raw, i ≠ .overrunPacket raw) →
    rowOfWords ws = i

/-- A run of words judged well-formed is, word for word, the packet it is judged to be, which agrees with its own
length; a run is judged unknown exactly where it has its right length and check word and no defined kind code; a command
is read from a code and parameters only where they are its own (R106, R150, R153, R154). -/
def Obligations.JudgementIsExact : Prop :=
  (∀ (raw : List Word) (p : Packet), judge raw = .wellFormed p → p.words = raw ∧ p.wf = true) ∧
  (∀ raw : List Word, judge raw = .unknown ↔
    ∃ (kind : Word) (payload : List Word), payload.length ≤ 1024 ∧ raw = withCheck kind payload ∧
      kind.setWidth 8 ∉ [0x00#8, 0x11#8, 0x12#8, 0x21#8, 0x22#8, 0x31#8, 0x32#8]) ∧
  (∀ (code : Word) (params : List Word) (c : Command), Command.parse code params = some c →
    c.code = code ∧ c.params = params ∧ c.wf = true)

/-! ### Resets and start-up -/

/-- R157, R162, Table 10-3: the assertion of the hard reset sets every block; its release begins the start-up read; the
reset state is what the two leave where nothing has been put out, the banks hold the factory defaults and the images
nothing. That the banks keep their contents until the start-up read is the model's choice (log entry 4), and so are the
banks and images at power-up (log entries 4 and 5). -/
def Obligations.HardResetSetsEveryBlock : Prop :=
  ∀ s : State,
    exec .hardResetAsserted s = .next
      { pending := s.pending
        out := s.out
        resetPin := true
        ring := ⟨.unlocked, false, none, none, [], [], [], .idle, 0, 0, 0⟩
        address := ⟨none, none, 0⟩
        commands := ⟨none, none, none, 0⟩
        queue := ⟨[], [], 0b110111111#9⟩
        banks := ⟨s.banks.staged, s.banks.live, 0, .none, none⟩
        intake := ⟨0, 0⟩
        frames :=
          ⟨⟨.shown, none, List.replicate 3072 0⟩, ⟨.filling, none, List.replicate 3072 0⟩,
            ⟨.free, none, List.replicate 3072 0⟩, .live, none, none, 0, 0⟩
        scan := ⟨1, 1, .dark, none⟩
        thermal := ⟨none, .ok, 0, none, .clear, none, none⟩
        store := ⟨s.store.image0, s.store.image1, .unread, .unread, .startupRead, false⟩
        node := .loading } ∧
    (s.resetPin = true →
      exec .hardResetRelease s = .next
        { s with resetPin := false, scan := { s.scan with cycleCode := 1, source := .dark } }) ∧
    (∀ t u, exec .hardResetAsserted s = .next t → exec .hardResetRelease t = .next u →
      { u with
        pending := []
        out := []
        banks := { u.banks with staged := factory, live := factory }
        store := { u.store with image0 := .unwritten, image1 := .unwritten } } = State.reset)

/-- The machine right after reset meets every invariant. That the banks and images it holds meet them rests on the
model's choice of them (log entries 4 and 5). -/
def Obligations.ResetMeetsInvariants : Prop :=
  FramesOk State.reset.frames ∧ OutputsOk State.reset ∧ QueueOk State.reset.queue ∧ CacheOk State.reset.commands ∧
    CoreOk State.reset ∧ RingOk State.reset ∧ SendQueueOk State.reset.ring

/-- R118, R163, Table 10-3: a RESET NODE that is due takes effect: every block takes its RESET NODE values, the link
state, the send queue and the identity are kept, and the start-up read begins. What waited for it follows in order, each
packet handled as one received in LOADING, whether or not the link has been lost meanwhile (R146), each LINK NOTICE of
the node's own placed behind the packets before it. The model's choices here: the banks keep their contents (log entry
4), as many packets wait as come and at their own words (log entry 9), and a packet that waited is judged for overrun
when it is handled (log entry 11). -/
def Obligations.ResetNodeTakesEffect : Prop :=
  ∀ s : State, s.ring.resetPhase = .due →
    let t : State :=
      { pending := s.pending
        out := s.out
        resetPin := s.resetPin
        ring :=
          { s.ring with held := [], resetPhase := .idle, damagedPackets := 0, unknownPackets := 0, linkLosses := 0 }
        address := s.address
        commands := ⟨none, none, none, 0⟩
        queue := ⟨[], [], 0b110111111#9⟩
        banks := ⟨s.banks.staged, s.banks.live, 0, .none, none⟩
        intake := ⟨0, 0⟩
        frames :=
          ⟨⟨.shown, none, List.replicate 3072 0⟩, ⟨.filling, none, List.replicate 3072 0⟩,
            ⟨.free, none, List.replicate 3072 0⟩, .live, none, none, 0, 0⟩
        scan := { refreshCode := 1, cycleCode := s.scan.cycleCode, source := .dark, pattern := none }
        thermal := ⟨none, .ok, 0, none, .clear, none, none⟩
        store := ⟨s.store.image0, s.store.image1, .unread, .unread, .startupRead, false⟩
        node := .loading }
    (s.ring.held = [] → exec .resetNodeTakesEffect s = .next t) ∧
    (∀ (before : List Waiting) (ws : List Word) (u : State), s.ring.held = before ++ [.notice ws] →
      exec .resetNodeTakesEffect { s with ring := { s.ring with held := before } } = .next u →
      exec .resetNodeTakesEffect s = .next { u with ring := u.ring.withNotice ws }) ∧
    (∀ (before : List Waiting) (i : Instr) (ws : List Word) (u v : State), s.ring.held = before ++ [.packet ws] →
      i.words = some ws → ws.length ≤ 1027 → s.resetPin = false →
      exec .resetNodeTakesEffect { s with ring := { s.ring with held := before } } = .next u →
      exec i { u with ring := { u.ring with link := .locked } } = .next v →
      exec .resetNodeTakesEffect s =
        .next { v with ring := { v.ring with link := s.ring.link, arriving := s.ring.arriving } })

/-- R81, R92, R164, Table 5-2: an image is judged VALID exactly where its check word agrees and its tables pass commit
validation; the completion of the start-up read records both judgements and leaves LOADING with the newest valid image
or the defaults. -/
def Obligations.StartupReadLeavesLoading : Prop :=
  (∀ (m : Image) (g : BitVec 32), m.judged = .valid g ↔ ImageIsValid m g) ∧
  (∀ m : Image, (∀ g, ¬ ImageIsValid m g) → m.judged = .invalid) ∧
  ∀ (s : State) (tables : Bank) (defaults : Bool), s.resetPin = false → s.store.unit = .startupRead →
    (match s.store.image0.judged, s.store.image1.judged with
      | .valid a, .valid b =>
        (if b.toNat ≤ a.toNat then s.store.image0.tables = some tables else s.store.image1.tables = some tables) ∧
          defaults = false
      | .valid _, _ => s.store.image0.tables = some tables ∧ defaults = false
      | _, .valid _ => s.store.image1.tables = some tables ∧ defaults = false
      | _, _ => tables = factory ∧ defaults = true) →
    exec .startupReadCompletion s = .next
      { s with
        banks := { s.banks with staged := tables, live := tables, dirty := 0#6, commit := .none }
        store :=
          { s.store with
            record0 := s.store.image0.judged
            record1 := s.store.image1.judged
            unit := .idle
            defaultsInUse := defaults }
        thermal :=
          { s.thermal with applied := tables.fallbackBand, sampleTimer := some tables.sampleInterval }
        node := if tables.startsActive = true then .active else .standby
        frames :=
          if tables.startsActive = true then
            { s.frames with presentation := .live, holdTimer := some tables.holdTime }
          else s.frames }

/-! ### Ring link and packets -/

/-- R145 to R148, R158: lock gained, lock lost, and the expiry of the link-notice timer, each with the LINK NOTICE it
places. A packet that stood received whole at the loss completes its handling after it as if the link were still locked,
ahead of the LOST notice; that the packet to be handled next while UNLOCKED is that packet is the model's choice (log
entry 16), and so is the attribute byte 0 of the LINK NOTICE packets the node places (log entry 18). -/
def Obligations.LinkLockAndLoss : Prop :=
  ∀ s : State,
    let notice (cause number : Word) : List Word :=
      (Packet.linkNotice 0 (positionWord s.address.position) cause number).words
    (s.resetPin = false → s.ring.link = .unlocked → s.ring.loss = none →
      exec .lockGained s = .next { s with ring := { s.ring with link := .locked, standing := false } }) ∧
    (∀ count number : Word, s.resetPin = false → s.ring.link = .unlocked → s.ring.loss = some ⟨count, number⟩ →
      exec .lockGained s = .next
        { s with
          ring :=
            Ring.withNotice { s.ring with link := .locked, standing := false, noticeTimer := none, loss := none }
              (notice 2#16 number)
          queue := s.queue.raise s.address .linkRestored (some count) }) ∧
    (s.resetPin = false → s.ring.link = .locked →
      exec .lossOfLock s = .next
        { s with
          ring :=
            Ring.withNotice
              { s.ring with
                link := .unlocked
                standing := true
                arriving := []
                linkLosses := if s.ring.linkLosses = 65535#16 then 65535#16 else s.ring.linkLosses + 1#16
                loss := some ⟨1#16, 1#16⟩
                noticeTimer := some 250 }
              (notice 1#16 0#16) }) ∧
    (∀ (i : Instr) (r : Ring) (lost ws : List Word) (t : State), s.resetPin = false → s.ring = r.withNotice lost →
      r.link = .unlocked → r.standing = true → i.words = some ws → ws.length ≤ 1027 →
      exec i { s with ring := { r with link := .locked, standing := false } } = .next t →
      exec i s = .next { t with ring := Ring.withNotice { t.ring with link := .unlocked } lost }) ∧
    (∀ (time : Nat) (count number : Word), s.ring.noticeTimer = some time → s.ring.link = .unlocked →
      s.ring.loss = some ⟨count, number⟩ →
      exec .linkNoticeTimerExpiry s = .next
        { s with
          ring :=
            Ring.withNotice
              { s.ring with
                standing := false
                loss := some ⟨if count = 65535#16 then 65535#16 else count + 1#16, number + 1#16⟩
                noticeTimer := some 250 }
              (notice 1#16 number) })

/-- R149, R151, R118: the packet at the head of the send queue leaves with the words it holds, and where it answered a
RESET NODE the reset falls due; with no packet waiting a FILL of the node's own leaves. -/
def Obligations.OutputCarriesTheSendQueue : Prop :=
  ∀ s : State,
    (∀ (e : SendEntry) (es : List SendEntry), s.ring.sendQueue = e :: es →
      exec .forwardPacket s = .next
        { s with
          out := s.out ++ [.packet e.words]
          ring :=
            { s.ring with sendQueue := es, resetPhase := if e.resets = true then .due else s.ring.resetPhase } }) ∧
    (s.resetPin = false → s.ring.sendQueue = [] →
      exec .sendFill s = .next { s with out := s.out ++ [.packet [0x0000#16, 0x0000#16, 0x84C0#16]] })

/-- R145, R157, R163: a packet on the ring input passes straight through while the pin is held, is not received while
UNLOCKED (but for one that stood received whole at the loss, `LinkLockAndLoss`), and waits in the holding buffer while a
RESET NODE is awaited. That any number of packets waits, behind what waits already, is the model's choice (log entry 9),
and so is which packets are taken while UNLOCKED (log entry 16). -/
def Obligations.PacketsNotHandled : Prop :=
  ∀ (i : Instr) (ws : List Word) (s : State), i.words = some ws →
    (s.resetPin = true → exec i s = .next { s with out := s.out ++ [.packet ws] }) ∧
    (s.resetPin = false → s.ring.link = .unlocked →
      (s.ring.standing = false ∨ 1027 < ws.length ∨ ∀ (r : Ring) (lost : List Word), s.ring ≠ r.withNotice lost) →
      exec i s = .next s) ∧
    (s.resetPin = false → s.ring.link = .locked → s.ring.resetPhase ≠ .idle → ws.length ≤ 1027 →
      exec i s = .next { s with ring := { s.ring with arriving := [], held := s.ring.held ++ [.packet ws] } })

/-- R149, R150, R153, R154, Table 9-4: the packets no block acts on: FILL is absorbed, LINK NOTICE forwarded, a damaged
and an unknown packet counted and forwarded as they arrived. A run of 1028 words and more leaves as it arrives, counted
once as damaged, whatever the send queue holds, behind everything that came before it: the packets of the send queue,
and what waits for a RESET NODE that one of them answers. That what is ahead of it leaves within its command is the
model's choice (log entry 10), and so is that a run of no word is damaged (log entry 12). -/
def Obligations.PacketsNoBlockActsOn : Prop :=
  (∀ s : State, Receiving s →
    (∀ (attrs : BitVec 8) (payload : List Word), payload.length ≤ 1024 →
      exec (.fill attrs payload) s = .next { s with ring := { s.ring with arriving := [] } }) ∧
    (∀ (attrs : BitVec 8) (origin cause number : Word),
      exec (.linkNotice attrs origin cause number) s =
        .next (s.sentOn (Packet.linkNotice attrs origin cause number).words)) ∧
    (∀ ws : List Word, judge ws = .damaged → ws.length ≤ 1027 →
      exec (.damagedPacket ws) s = .next
        (State.sentOn
          { s with ring :=
            { s.ring with
              damagedPackets :=
                if s.ring.damagedPackets = 65535#16 then 65535#16 else s.ring.damagedPackets + 1#16 } }
          ws)) ∧
    (∀ ws : List Word, judge ws = .unknown →
      exec (.unknownPacket ws) s = .next
        (State.sentOn
          { s with ring :=
            { s.ring with
              unknownPackets :=
                if s.ring.unknownPackets = 65535#16 then 65535#16 else s.ring.unknownPackets + 1#16 } }
          ws))) ∧
  ∀ (s : State) (ws : List Word), s.resetPin = false → s.ring.link = .locked → 1027 < ws.length →
    (s.ring.sendQueue ≠ [] → ∀ u, exec .forwardPacket s = .next u →
      exec (.damagedPacket ws) s = exec (.damagedPacket ws) u) ∧
    (s.ring.sendQueue = [] → s.ring.resetPhase = .due → ∀ u, exec .resetNodeTakesEffect s = .next u →
      exec (.damagedPacket ws) s = exec (.damagedPacket ws) u) ∧
    (s.ring.sendQueue = [] → s.ring.resetPhase = .idle →
      exec (.damagedPacket ws) s = .next
        { s with
          out := s.out ++ [.packet ws]
          ring :=
            { s.ring with
              arriving := []
              damagedPackets :=
                if s.ring.damagedPackets = 65535#16 then 65535#16 else s.ring.damagedPackets + 1#16 } })

/-- R151: a packet of at most 1027 words received whole while the forwarded packets hold more than 3069 words is overrun, whatever row it is:
no block acts on it, it is not forwarded, and it is counted as damaged unless its kind code is that of FILL. -/
def Obligations.OverrunPacketsAreDropped : Prop :=
  ∀ (i : Instr) (ws : List Word) (s : State), i.words = some ws → s.resetPin = false → s.ring.link = .locked →
    s.ring.resetPhase = .idle → 3069 < forwardedWords s.ring.sendQueue → ws.length ≤ 1027 →
    exec i s = .next
      { s with ring :=
        { s.ring with
          arriving := []
          damagedPackets :=
            if ws.head?.map (BitVec.setWidth 8) = some 0#8 then s.ring.damagedPackets
            else if s.ring.damagedPackets = 65535#16 then 65535#16
            else s.ring.damagedPackets + 1#16 } }

/-- R149, R156: a well-formed packet leaves the node well-formed, as a packet of its own kind with the attributes it
came with, behind the packets that waited; a FILL leaves nothing. -/
def Obligations.RewrittenPacketsStayWellFormed : Prop :=
  ∀ (i : Instr) (ws : List Word) (p : Packet) (s t : State), Receiving s → i.words = some ws →
    judge ws = .wellFormed p → exec i s = .next t →
    (p.kind = 0 ∧ t.ring.sendQueue = s.ring.sendQueue) ∨
    ∃ (e : SendEntry) (p' : Packet), p.kind ≠ 0 ∧ t.ring.sendQueue = s.ring.sendQueue ++ [e] ∧ e.own = false ∧
      judge e.words = .wellFormed p' ∧ p'.kind = p.kind ∧ p'.attrs = p.attrs

/-- R151: the forwarded packets in the send queue hold at most 4096 words, and no packet that waits is longer than the
holding buffer. -/
def Obligations.SendQueueStaysBounded : Prop :=
  ∀ s t : State, SendQueueOk s.ring → step s = .next t → SendQueueOk t.ring

/-! ### Addressing -/

/-- R136, R137, Table 8-2: an ENUM gives the node its position and is forwarded with the next one; a position that
changes value ends the unicast series and empties the replay cache. -/
def Obligations.EnumTakesPosition : Prop :=
  ∀ (attrs : BitVec 8) (q : Word) (s : State), Receiving s →
    let position : Option (Fin 64) := if h : q.toNat < 64 then some ⟨q.toNat, h⟩ else none
    exec (.enum attrs q) s = .next
      (State.sentOn
        { s with
          address := { s.address with position := position }
          commands :=
            if position = s.address.position then s.commands
            else { s.commands with unicastLast := none, replayCache := none } }
        (Packet.enum attrs (if q.toNat < 64 then q + 1#16 else 64#16)).words)

/-- R101, R130, R138, R139, Tables 8-3 and 8-4: a CONTROL packet that does not concern the node, and a COLLECT whose
scope does not match it, are forwarded with every field as it arrived and change nothing. -/
def Obligations.PacketsForOthersPassUnchanged : Prop :=
  ∀ s : State, Receiving s →
    (∀ (i : Instr) (h : Header) (code : Word) (params : List Word), h.wf = true → params.length ≤ 1000 →
      i.words = some (Packet.control h code params).words → ¬ AddressedTo s.address h →
      exec i s = .next (s.sentOn (Packet.control h code params).words)) ∧
    (∀ (attrs : BitVec 8) (mode value capacity : Word) (records : List Word), records.length ≤ 1020 →
      ¬ InScope s.address mode value →
      exec (.collect attrs mode value capacity records) s =
        .next (s.sentOn (Packet.collect attrs mode value capacity records).words))

/-! ### Commands -/

/-- R142, R109, R114: IDENTIFY, in every node state, appends the node's identity. -/
def Obligations.IdentifyReports : Prop :=
  ∀ (h : Header) (s : State), Offered s h → s.queue.entries.length < 12 →
    exec (.identify h) s = .next
      (acceptance s h .identify
        (some ⟨s.address.position, s.address.logicalId, false,
          .reply .identity
            [openingWord h 0x01, positionWord s.address.position, logicalIdWord s.address.logicalId,
              s.address.groups, nodeCode s.node, 1#16]⟩))

/-- R141: SET IDENTITY by POSITION replaces the logical id and the group set; in another mode, or with a logical id that
is neither 0 to 1023 nor 65535, it is refused INVALID; in LOADING, STATE. -/
def Obligations.SetIdentityNames : Prop :=
  ∀ (h : Header) (logicalId groups : Word) (s : State), Offered s h →
    (s.node = .loading →
      exec (.setIdentity h logicalId groups) s = .next (refusal s h 0x02#16 [logicalId, groups] 5#16)) ∧
    (s.node ≠ .loading → h.mode = 1#16 → ∀ i : Fin 1024, logicalId.toNat = i.val →
      exec (.setIdentity h logicalId groups) s = .next
        (acceptance { s with address := { s.address with logicalId := some i, groups := groups } } h
          (.setIdentity logicalId groups) none)) ∧
    (s.node ≠ .loading → h.mode = 1#16 → logicalId = 65535#16 →
      exec (.setIdentity h logicalId groups) s = .next
        (acceptance { s with address := { s.address with logicalId := none, groups := groups } } h
          (.setIdentity logicalId groups) none)) ∧
    (s.node ≠ .loading → h.mode ≠ 1#16 ∨ (1024 ≤ logicalId.toNat ∧ logicalId ≠ 65535#16) →
      exec (.setIdentity h logicalId groups) s = .next (refusal s h 0x02#16 [logicalId, groups] 6#16))

/-- R2, R9, R10, R12, Tables 1-1 to 1-5: WRITE TABLE writes its run into the staged bank and adds the table to the dirty
set, and its refusals come in their order. -/
def Obligations.WriteTableWrites : Prop :=
  ∀ (h : Header) (table start : Word) (values : List Word) (s : State), Offered s h → s.node ≠ .loading →
    1 ≤ values.length → values.length ≤ 256 →
    (5 < table.toNat →
      exec (.writeTable h table start values) s = .next (refusal s h 0x10#16 (table :: start :: values) 6#16)) ∧
    (∀ t : TableName, table = tableCode t →
      let inside := start.toNat + values.length ≤ t.entries
      let allInRange := ∀ j, (hj : j < values.length) → EntryInRange t (start.toNat + j) values[j]
      (¬ inside →
        exec (.writeTable h table start values) s = .next (refusal s h 0x10#16 (table :: start :: values) 6#16)) ∧
      (inside → StagedLocked s →
        exec (.writeTable h table start values) s = .next (refusal s h 0x10#16 (table :: start :: values) 7#16)) ∧
      (inside → ¬ StagedLocked s → ¬ allInRange →
        exec (.writeTable h table start values) s = .next (refusal s h 0x10#16 (table :: start :: values) 6#16)) ∧
      (inside → ¬ StagedLocked s → allInRange →
        let old := s.banks.staged.table t
        let new := (List.range old.length).map fun i =>
          if start.toNat ≤ i ∧ i < start.toNat + values.length then values.getD (i - start.toNat) 0 else old.getD i 0
        exec (.writeTable h table start values) s = .next
          (acceptance
            { s with banks :=
              { s.banks with
                staged := s.banks.staged.setTable t new
                dirty := s.banks.dirty ||| BitVec.ofNat 6 (2 ^ table.toNat) } }
            h (.writeTable table start values) none)))

/-- R13: READ TABLE appends the entries of the named bank, and its refusals come in their order. -/
def Obligations.ReadTableReports : Prop :=
  ∀ (h : Header) (bank table start count : Word) (s : State), Offered s h → s.node ≠ .loading →
    (1 < bank.toNat ∨ 5 < table.toNat →
      exec (.readTable h bank table start count) s = .next (refusal s h 0x11#16 [bank, table, start, count] 6#16)) ∧
    (∀ t : TableName, bank.toNat ≤ 1 → table = tableCode t →
      (count.toNat < 1 ∨ 60 < count.toNat ∨ t.entries < start.toNat + count.toNat →
        exec (.readTable h bank table start count) s =
          .next (refusal s h 0x11#16 [bank, table, start, count] 6#16)) ∧
      (1 ≤ count.toNat → count.toNat ≤ 60 → start.toNat + count.toNat ≤ t.entries →
        let entries := if bank = 1#16 then s.banks.live.table t else s.banks.staged.table t
        (12 ≤ s.queue.entries.length →
          exec (.readTable h bank table start count) s =
            .next (refusal s h 0x11#16 [bank, table, start, count] 3#16)) ∧
        (s.queue.entries.length < 12 → entries.length = t.entries →
          exec (.readTable h bank table start count) s = .next
            (acceptance s h (.readTable bank table start count)
              (some ⟨s.address.position, s.address.logicalId, false,
                .reply .tableData
                  ([openingWord h 0x11, bank, table, start] ++
                    (List.range count.toNat).map fun j => entries.getD (start.toNat + j) 0)⟩)))))

/-- R14, R9, R10: COPY LIVE makes the staged bank the live one and the dirty set empty, and is refused LOCKED. -/
def Obligations.CopyLiveRestoresStaged : Prop :=
  ∀ (h : Header) (s : State), Offered s h → s.node ≠ .loading →
    (¬ StagedLocked s →
      exec (.copyLive h) s = .next
        (acceptance { s with banks := { s.banks with staged := s.banks.live, dirty := 0#6 } } h .copyLive none)) ∧
    (StagedLocked s → exec (.copyLive h) s = .next (refusal s h 0x12#16 [] 7#16))

/-- R19, R20: COMMIT with target NEXT or FRAME, past its checks, makes the commit PENDING with that target. -/
def Obligations.CommitWaitsForShow : Prop :=
  ∀ (h : Header) (frame : Word) (s : State), Offered s h → s.node ≠ .loading → ¬ StagedLocked s →
    validate s.banks.staged = none →
    exec (.commit h 1#16 frame) s = .next
      (acceptance { s with banks := { s.banks with commit := .pending .next, lastFailure := none } } h
        (.commit 1#16 frame) none) ∧
    exec (.commit h 2#16 frame) s = .next
      (acceptance { s with banks := { s.banks with commit := .pending (.frame frame), lastFailure := none } } h
        (.commit 2#16 frame) none)

/-- R19, R21, R23, R77: COMMIT with target IMMEDIATE, in STANDBY and TEST, applies the commit at its acceptance. -/
def Obligations.CommitImmediateApplies : Prop :=
  ∀ (h : Header) (frame : Word) (s : State), Offered s h → (s.node = .standby ∨ s.node = .test) →
    ¬ StagedLocked s → (∀ phase target generation, s.store.unit ≠ .storing phase target generation) →
    validate s.banks.staged = none →
    exec (.commit h 3#16 frame) s = .next
      (acceptance (afterCommit { s with banks := { s.banks with lastFailure := none } }) h (.commit 3#16 frame) none)

/-- R15, R16, R17, R19, R107: commit validation passes exactly where every range and relation holds and otherwise gives
the point of the first that fails; COMMIT refused, each check in its order, where validation alone sets the last
validation failure. -/
def Obligations.CommitRefusals : Prop :=
  (∀ b : Bank, b.shaped = true →
    (validate b = none ↔ PassesValidation b) ∧ ∀ p : FailurePoint, validate b = some p ↔ FailsValidationAt b p) ∧
  ∀ (h : Header) (kind frame : Word) (s : State), Offered s h → s.node ≠ .loading →
    (kind.toNat < 1 ∨ 3 < kind.toNat →
      exec (.commit h kind frame) s = .next (refusal s h 0x13#16 [kind, frame] 6#16)) ∧
    (kind = 3#16 → s.node = .active →
      exec (.commit h kind frame) s = .next (refusal s h 0x13#16 [kind, frame] 5#16)) ∧
    (1 ≤ kind.toNat → kind.toNat ≤ 3 → (kind = 3#16 → s.node ≠ .active) →
      (StagedLocked s →
        exec (.commit h kind frame) s = .next (refusal s h 0x13#16 [kind, frame] 7#16)) ∧
      (¬ StagedLocked s →
        (∀ phase target generation, kind = 3#16 → s.store.unit = .storing phase target generation →
          exec (.commit h kind frame) s = .next (refusal s h 0x13#16 [kind, frame] 3#16)) ∧
        (∀ point : FailurePoint,
          (kind = 3#16 → ∀ phase target generation, s.store.unit ≠ .storing phase target generation) →
          validate s.banks.staged = some point →
          exec (.commit h kind frame) s = .next
            (refusal { s with banks := { s.banks with lastFailure := some point } } h 0x13#16 [kind, frame] 6#16))))

/-- R22: CANCEL COMMIT withdraws an outstanding commit, and without one is accepted with no effect. -/
def Obligations.CancelCommitWithdraws : Prop :=
  ∀ (h : Header) (s : State), Offered s h → s.node ≠ .loading →
    exec (.cancelCommit h) s = .next
      (acceptance { s with banks := { s.banks with commit := .none } } h .cancelCommit none)

/-- R84, R85, R86: STORE TABLES reserves its place in the queue, chooses its target and generation and begins ERASE; its
refusals come in their order. -/
def Obligations.StoreTablesBegins : Prop :=
  ∀ (h : Header) (s : State), Offered s h → s.node ≠ .loading →
    let chosen : ImageId × Nat :=
      match s.store.record0, s.store.record1 with
      | .valid a, .valid b => if b.toNat ≤ a.toNat then (.image1, a.toNat) else (.image0, b.toNat)
      | .valid a, _ => (.image1, a.toNat)
      | _, .valid b => (.image0, b.toNat)
      | _, _ => (.image0, 0)
    (s.store.unit ≠ .idle → exec (.storeTables h) s = .next (refusal s h 0x20#16 [] 3#16)) ∧
    (s.store.unit = .idle → chosen.2 = 4294967295 →
      exec (.storeTables h) s = .next (refusal s h 0x20#16 [] 6#16)) ∧
    (s.store.unit = .idle → chosen.2 ≠ 4294967295 → 12 ≤ s.queue.entries.length →
      exec (.storeTables h) s = .next (refusal s h 0x20#16 [] 3#16)) ∧
    (s.store.unit = .idle → chosen.2 ≠ 4294967295 → s.queue.entries.length < 12 →
      exec (.storeTables h) s = .next
        (acceptance
          { s with
            store :=
              { s.store with
                image0 := if chosen.1 = .image0 then .unwritten else s.store.image0
                image1 := if chosen.1 = .image1 then .unwritten else s.store.image1
                record0 := if chosen.1 = .image0 then .invalid else s.store.record0
                record1 := if chosen.1 = .image1 then .invalid else s.store.record1
                unit := .storing .erase chosen.1 (BitVec.ofNat 32 (chosen.2 + 1)) }
            queue :=
              { s.queue with
                entries :=
                  s.queue.entries ++
                    [.reservation (openingWord h 0x20) s.address.position s.address.logicalId] } }
          h .storeTables none))

/-- R90, R82: LOAD STORED reserves its place in the queue, chooses its source and begins READING; its refusals come in
their order. -/
def Obligations.LoadStoredBegins : Prop :=
  ∀ (h : Header) (s : State), Offered s h → s.node ≠ .loading →
    let source : Option ImageId :=
      match s.store.record0, s.store.record1 with
      | .valid a, .valid b => if b.toNat ≤ a.toNat then some .image0 else some .image1
      | .valid _, _ => some .image0
      | _, .valid _ => some .image1
      | _, _ => none
    (s.banks.commit ≠ .none → exec (.loadStored h) s = .next (refusal s h 0x21#16 [] 7#16)) ∧
    (s.banks.commit = .none → s.store.unit ≠ .idle ∨ 12 ≤ s.queue.entries.length →
      exec (.loadStored h) s = .next (refusal s h 0x21#16 [] 3#16)) ∧
    (s.banks.commit = .none → s.store.unit = .idle → s.queue.entries.length < 12 →
      exec (.loadStored h) s = .next
        (acceptance
          { s with
            store := { s.store with unit := .reading source }
            queue :=
              { s.queue with
                entries :=
                  s.queue.entries ++
                    [.reservation (openingWord h 0x21) s.address.position s.address.logicalId] } }
          h .loadStored none))

/-- R168, R169, R170, Table 9-17: READ STATUS, in every node state, appends the 49 words of the status record, the last
sequences as its own acceptance leaves them. -/
def Obligations.ReadStatusReports : Prop :=
  ∀ (h : Header) (s : State), Offered s h → s.queue.entries.length < 12 →
    let sequences := s.commands.withSequence h
    let target : Word × Word :=
      match s.banks.commit with
      | .none => (0, 0)
      | .pending .next => (1, 0)
      | .pending (.frame f) => (2, f)
      | .deferred .next => (1, 0)
      | .deferred (.frame f) => (2, f)
    let unit : Word × Word :=
      match s.store.unit with
      | .startupRead => (0, 0)
      | .idle => (1, 0)
      | .storing .erase _ _ => (2, 1)
      | .storing .program _ _ => (2, 2)
      | .storing .verify _ _ => (2, 3)
      | .reading _ => (3, 0)
    let image (r : ImageRecord) : List Word :=
      match r with
      | .unread => [0, 0, 0]
      | .invalid => [1, 0, 0]
      | .valid g => [2, (g >>> 16).setWidth 16, g.setWidth 16]
    let optional (w : Option Word) : List Word := [if w.isSome then 1 else 0, w.getD 0]
    let shownTag : Option Word :=
      if s.frames.buffer0.role = .shown then s.frames.buffer0.tag
      else if s.frames.buffer1.role = .shown then s.frames.buffer1.tag
      else if s.frames.buffer2.role = .shown then s.frames.buffer2.tag
      else none
    let body : List Word :=
      [openingWord h 0x30, nodeCode s.node, presentationCode s.frames.presentation,
        BitVec.ofNat 16 s.thermal.applied, (s.thermal.pending.map (BitVec.ofNat 16)).getD 65535#16,
        cutoffCode s.thermal.cutoff, sensorCode s.thermal.sensor,
        if s.node = .loading then 0#16 else BitVec.ofNat 16 (s.banks.live.bandMap s.thermal.applied),
        commitCode s.banks.commit, target.1, target.2, s.banks.dirty.setWidth 16, unit.1, unit.2] ++
      image s.store.record0 ++ image s.store.record1 ++
      [if s.store.defaultsInUse = true then 1#16 else 0#16,
        (s.banks.lastFailure.map fun p => tableCode p.table).getD 65535#16,
        (s.banks.lastFailure.map fun p => BitVec.ofNat 16 p.index).getD 65535#16] ++
      optional s.frames.lastShow ++ optional shownTag ++
      [(sequences.unicastLast.map (BitVec.setWidth 16)).getD 65535#16,
        (sequences.multicastLast.map (BitVec.setWidth 16)).getD 65535#16,
        BitVec.ofNat 16 s.queue.entries.length, BitVec.ofNat 16 (reservationCount s.queue.entries),
        BitVec.ofNat 16 s.queue.backlog.length] ++
      ((List.range 9).map fun j =>
        (s.queue.backlog[j]?.map fun held => BitVec.ofNat 16 (noticeCode held.kind)).getD 65535#16) ++
      [s.ring.damagedPackets, s.ring.unknownPackets, s.ring.linkLosses, s.commands.sequenceRefusals,
        s.intake.stalePackets, s.intake.abandonedFrames, s.frames.skippedFrames, s.frames.unmatchedShows]
    body.length = 49 ∧
      exec (.readStatus h) s = .next
        (acceptance s h .readStatus
          (some ⟨s.address.position, s.address.logicalId, false, .reply .status body⟩))

/-- R79: READ TEMPERATURE appends the Thermal Monitor's state. -/
def Obligations.ReadTemperatureReports : Prop :=
  ∀ (h : Header) (s : State), Offered s h → s.node ≠ .loading → s.queue.entries.length < 12 →
    exec (.readTemperature h) s = .next
      (acceptance s h .readTemperature
        (some ⟨s.address.position, s.address.logicalId, false,
          .reply .temperature
            [openingWord h 0x31, (s.thermal.reading.map (BitVec.ofInt 16)).getD 0x8000#16,
              sensorCode s.thermal.sensor, BitVec.ofNat 16 s.thermal.applied,
              (s.thermal.pending.map (BitVec.ofNat 16)).getD 65535#16, cutoffCode s.thermal.cutoff,
              BitVec.ofNat 16 (s.banks.live.bandMap s.thermal.applied)]⟩))

/-- R165, R166, R54, R62, R64, Table 10-4: SET STATE to each of its targets, and its refusals. -/
def Obligations.SetStateMoves : Prop :=
  ∀ (h : Header) (target pattern red green blue : Word) (s : State), Offered s h → s.node ≠ .loading →
    let command : Command := .setState target pattern red green blue
    let lit := s.node = .active ∨ s.node = .test
    let entered : Frames :=
      if lit then s.frames
      else { s.frames with presentation := .live, holdTimer := some s.banks.live.holdTime }
    (target.toNat < 1 ∨ 3 < target.toNat ∨ (target = 3#16 ∧ (pattern.toNat < 1 ∨ 3 < pattern.toNat)) →
      exec (.setState h target pattern red green blue) s =
        .next (refusal s h 0x40#16 [target, pattern, red, green, blue] 6#16)) ∧
    (target = 1#16 →
      exec (.setState h target pattern red green blue) s = .next
        (acceptance
          { s with
            node := .standby
            frames := if lit then { s.frames with holdTimer := none } else s.frames
            scan := { s.scan with pattern := none, source := if lit then .dark else s.scan.source } }
          h command none)) ∧
    (target = 2#16 →
      exec (.setState h target pattern red green blue) s = .next
        (acceptance { s with node := .active, frames := entered, scan := { s.scan with pattern := none } } h
          command none)) ∧
    (∀ p : Pattern, target = 3#16 →
      (pattern = 1#16 ∧ p = .solid red green blue ∨ pattern = 2#16 ∧ p = .columnRamp ∨
        pattern = 3#16 ∧ p = .checker) →
      exec (.setState h target pattern red green blue) s = .next
        (acceptance { s with node := .test, frames := entered, scan := { s.scan with pattern := some p } } h
          command none))

/-- R129, R127: SET NOTICES replaces the mask and drops the kinds it disables from the backlog; a mask with a flag
outside the nine kinds is refused INVALID; in LOADING, STATE. -/
def Obligations.SetNoticesMasks : Prop :=
  ∀ (h : Header) (mask : Word) (s : State), Offered s h →
    (s.node = .loading → exec (.setNotices h mask) s = .next (refusal s h 0x41#16 [mask] 5#16)) ∧
    (s.node ≠ .loading → 512 ≤ mask.toNat →
      exec (.setNotices h mask) s = .next (refusal s h 0x41#16 [mask] 6#16)) ∧
    (s.node ≠ .loading → mask.toNat < 512 →
      exec (.setNotices h mask) s = .next
        (acceptance
          { s with queue :=
            { s.queue with
              mask := mask.setWidth 9
              backlog := s.queue.backlog.filter fun held => mask.getLsbD (noticeCode held.kind) } }
          h (.setNotices mask) none))

/-- R172: CLEAR COUNTERS sets the eight counters to 0 together and changes no other state but what acceptance sets; in
LOADING it is refused STATE. -/
def Obligations.ClearCountersClears : Prop :=
  ∀ (h : Header) (s : State), Offered s h →
    (s.node = .loading → exec (.clearCounters h) s = .next (refusal s h 0x42#16 [] 5#16)) ∧
    (s.node ≠ .loading →
      exec (.clearCounters h) s = .next
        (acceptance
          { s with
            ring := { s.ring with damagedPackets := 0#16, unknownPackets := 0#16, linkLosses := 0#16 }
            commands := { s.commands with sequenceRefusals := 0#16 }
            intake := ⟨0#16, 0#16⟩
            frames := { s.frames with skippedFrames := 0#16, unmatchedShows := 0#16 } }
          h .clearCounters none))

/-- R118, R163: RESET NODE, in every node state, is answered in its own packet, and the reset waits for that packet to
leave. -/
def Obligations.ResetNodeIsAnsweredFirst : Prop :=
  ∀ (h : Header) (s : State), Offered s h →
    exec (.resetNode h) s = .next
      (acceptance { s with ring := { s.ring with resetPhase := .answered } } h .resetNode none)

/-- R106, Table 6-1: a CONTROL packet whose code is none of the fifteen, or whose parameter count is not its command's,
is refused UNKNOWN. -/
def Obligations.UnknownCommandsAreRefused : Prop :=
  ∀ (h : Header) (code : Word) (params : List Word) (s : State), Offered s h → params.length ≤ 1000 →
    (∀ row ∈ [(0x01, 0, 0), (0x02, 2, 2), (0x10, 3, 258), (0x11, 4, 4), (0x12, 0, 0), (0x13, 2, 2), (0x14, 0, 0),
        (0x20, 0, 0), (0x21, 0, 0), (0x30, 0, 0), (0x31, 0, 0), (0x40, 5, 5), (0x41, 1, 1), (0x42, 0, 0),
        (0x4F, 0, 0)],
      ¬ (code.toNat = row.1 ∧ row.2.1 ≤ params.length ∧ params.length ≤ row.2.2)) →
    exec (.unknownCommand h code params) s = .next (refusal s h code params 8#16)

/-- R107, R108, Table 6-4: in LOADING every command but IDENTIFY, READ STATUS and RESET NODE is refused STATE, and with
12 entries in the queue a command that reports at once is refused BUSY. -/
def Obligations.StateAndRoomRefusals : Prop :=
  ∀ (h : Header) (c : Command) (s : State), Offered s h → c.wf = true →
    (s.node = .loading → c ≠ .identify → c ≠ .readStatus → c ≠ .resetNode →
      exec (c.row h) s = .next (refusal s h c.code c.params 5#16)) ∧
    (12 ≤ s.queue.entries.length →
      c = .identify ∨ c = .readStatus ∨ (c = .readTemperature ∧ s.node ≠ .loading) →
      exec (c.row h) s = .next (refusal s h c.code c.params 3#16))

/-- R103, R104, R105, R100, R112: what the conflict and sequence stages and the multicast duplicate test do with a packet
they do not pass, whatever its command. -/
def Obligations.SequencingStopsPackets : Prop :=
  ∀ (i : Instr) (h : Header) (code : Word) (params : List Word) (s : State), Receiving s → h.wf = true →
    AddressedTo s.address h → params.length ≤ 1000 → i.words = some (Packet.control h code params).words →
    let sequence : BitVec 8 := h.sequence.setWidth 8
    (h.mode = 1#16 ∨ h.mode = 2#16 → h.disposition ≠ 0#16 →
      exec i s = .next (refusal s h code params 9#16)) ∧
    (∀ last : BitVec 8, h.mode = 1#16 ∨ h.mode = 2#16 → h.disposition = 0#16 → h.attrs.getLsbD 0 = false →
      s.commands.unicastLast = some last →
      (sequence ≠ last → sequence ≠ last + 1#8 →
        exec i s = .next
          (refusal
            { s with commands :=
              { s.commands with
                sequenceRefusals :=
                  if s.commands.sequenceRefusals = 65535#16 then 65535#16
                  else s.commands.sequenceRefusals + 1#16 } }
            h code params 4#16)) ∧
      (sequence = last → s.commands.replayCache = none → exec i s = .next (refusal s h code params 2#16)) ∧
      (∀ r : Record, sequence = last → s.commands.replayCache = some r →
        (s.queue.entries.length < 12 →
          exec i s = .next
            (refusal
              { s with queue := { s.queue with entries := s.queue.entries ++ [.record { r with replay := true }] } }
              h code params 2#16)) ∧
        (12 ≤ s.queue.entries.length → exec i s = .next (refusal s h code params 3#16)))) ∧
    (h.mode = 3#16 ∨ h.mode = 4#16 → h.attrs.getLsbD 0 = false → s.commands.multicastLast = some sequence →
      exec i s = .next (s.sentOn (Packet.control { h with accepts := saturatingInc h.accepts } code params).words))

/-- R113: the refusing node's flag is set in the refusal map and every other flag is left as it arrived. -/
def Obligations.RefusalMapMarksOnePosition : Prop :=
  ∀ (map : List Word) (p q : Fin 64), map.length = 4 →
    (markPosition map p.val).length = 4 ∧
      ((markPosition map p.val).getD (q.val / 16) 0).getLsbD (q.val % 16) =
        (decide (q = p) || (map.getD (q.val / 16) 0).getLsbD (q.val % 16))

/-! ### The Reply Queue -/

/-- R124, R125: what an occurrence of a notice kind does: nothing while disabled; counted into its record; counted into
the backlog; a new record; a new kind in the backlog. -/
def Obligations.NoticeOccurrences : Prop :=
  ∀ (q : ReplyQueue) (id : Identity) (k : NoticeKind) (detail : Option Word), QueueOk q →
    (q.mask.getLsbD (noticeCode k) = false → q.raise id k detail = q) ∧
    (q.mask.getLsbD (noticeCode k) = true →
      (∀ (before after : List Entry) (position : Option (Fin 64)) (logicalId : Option (Fin 1024)) (replay : Bool)
          (count : Word) (earlier : Option Word),
        q.entries = before ++ .record ⟨position, logicalId, replay, .notice k count earlier⟩ :: after →
        q.raise id k detail =
          { q with entries :=
            before ++
              .record ⟨position, logicalId, replay,
                .notice k (if count = 65535#16 then 65535#16 else count + 1#16) detail⟩ :: after }) ∧
      (∀ (before after : List Held) (count : Word) (earlier : Option Word),
        q.backlog = before ++ ⟨k, count, earlier⟩ :: after →
        q.raise id k detail =
          { q with backlog :=
            before ++ ⟨k, if count = 65535#16 then 65535#16 else count + 1#16, detail⟩ :: after }) ∧
      (k ∉ noticeKinds q →
        (q.entries.length < 12 → noticeCount q.entries < 4 →
          q.raise id k detail =
            { q with entries :=
              q.entries ++ [.record ⟨id.position, id.logicalId, false, .notice k 1#16 detail⟩] }) ∧
        (12 ≤ q.entries.length ∨ 4 ≤ noticeCount q.entries →
          q.raise id k detail = { q with backlog := q.backlog ++ [⟨k, 1#16, detail⟩] })))

/-- R128, R130, R131, R132: a COLLECT whose scope matches drains records in order while they fit. With an empty backlog
it takes the longest run of records from the head that fits, up to a reservation; in every case draining one record that
fits, with the admissions it makes room for, leaves the same as the packet coming with that record in it; and where the
list is empty, or begins with a reservation or a record that does not fit, the packet leaves as it arrived. -/
def Obligations.CollectDrains : Prop :=
  ∀ (attrs : BitVec 8) (mode value capacity : Word) (records : List Word) (s : State), Receiving s →
    records.length ≤ 1020 → InScope s.address mode value →
    (∀ (drained : List Record) (rest : List Entry), s.queue.backlog = [] →
      s.queue.entries = drained.map Entry.record ++ rest →
      (drained.flatMap Record.words).length ≤ min capacity.toNat 1000 - records.length →
      (rest = [] ∨ (∃ w position logicalId after, rest = .reservation w position logicalId :: after) ∨
        ∃ r after, rest = .record r :: after ∧
          min capacity.toNat 1000 - records.length < (drained.flatMap Record.words).length + r.words.length) →
      exec (.collect attrs mode value capacity records) s = .next
        (State.sentOn { s with queue := { s.queue with entries := rest } }
          (Packet.collect attrs mode value capacity (records ++ drained.flatMap Record.words)).words)) ∧
    (∀ (r : Record) (rest : List Entry), s.queue.entries = .record r :: rest →
      r.words.length ≤ min capacity.toNat 1000 - records.length →
      let admitted := min s.queue.backlog.length (min (12 - rest.length) (4 - noticeCount rest))
      exec (.collect attrs mode value capacity records) s =
        exec (.collect attrs mode value capacity (records ++ r.words))
          { s with queue :=
            { s.queue with
              entries :=
                rest ++
                  (s.queue.backlog.take admitted).map fun held =>
                    .record
                      ⟨s.address.position, s.address.logicalId, false, .notice held.kind held.count held.detail⟩
              backlog := s.queue.backlog.drop admitted } }) ∧
    ((s.queue.entries = [] ∨ (∃ w position logicalId after, s.queue.entries = .reservation w position logicalId :: after) ∨
        ∃ r after, s.queue.entries = .record r :: after ∧ min capacity.toNat 1000 - records.length < r.words.length) →
      exec (.collect attrs mode value capacity records) s = .next
        (s.sentOn (Packet.collect attrs mode value capacity records).words))

/-! ### Pixel Intake -/

/-- R34, R35, R41: a packet with a pixel in the window, of the FILLING buffer's frame or finding it untagged, is taken:
the FILLING buffer takes its frame number and its corrected levels, and nothing else changes. -/
def Obligations.PixelPacketsAreTaken : Prop :=
  ∀ (attrs : BitVec 8) (frame line column count : Word) (samples : List Word) (filling : Buffer) (s : State),
    Receiving s → s.node = .active ∨ s.node = .test → FramesOk s.frames → samples.length = 3 * count.toNat →
    1 ≤ count.toNat → count.toNat ≤ 256 →
    (∃ j, j < count.toNat ∧ WallPixelInWindow s.banks.live line.toNat (column.toNat + j)) →
    filling.role = .filling →
    (filling = s.frames.buffer0 ∨ filling = s.frames.buffer1 ∨ filling = s.frames.buffer2) →
    (filling.tag = none ∨ filling.tag = some frame) →
    ∃ content, Intaken s line column count samples filling.content content ∧
      exec (.pixel attrs frame line column count samples) s = .next
        (State.sentOn
          { s with frames :=
            eachBuffer s.frames fun b => if b.role = .filling then ⟨.filling, some frame, content⟩ else b }
          (Packet.pixel attrs frame line column count samples).words)

/-- R35, R36, R37: a packet with a pixel in the window of a later frame than the FILLING tag retags the buffer, over a
copy of the newest presented or presentable frame; one of an earlier frame is stale. Both are counted. -/
def Obligations.PixelPacketsRetagOrAreStale : Prop :=
  ∀ (attrs : BitVec 8) (frame line column count tag : Word) (samples : List Word) (filling : Buffer) (s : State),
    Receiving s → s.node = .active ∨ s.node = .test → FramesOk s.frames → samples.length = 3 * count.toNat →
    1 ≤ count.toNat → count.toNat ≤ 256 →
    (∃ j, j < count.toNat ∧ WallPixelInWindow s.banks.live line.toNat (column.toNat + j)) →
    filling.role = .filling →
    (filling = s.frames.buffer0 ∨ filling = s.frames.buffer1 ∨ filling = s.frames.buffer2) →
    filling.tag = some tag →
    (1 ≤ (frame - tag).toNat → (frame - tag).toNat ≤ 32767 →
      ∃ newest content, NewestContent s.frames newest ∧
        Intaken s line column count samples newest content ∧
        exec (.pixel attrs frame line column count samples) s = .next
          (State.sentOn
            { s with
              frames :=
                eachBuffer s.frames fun b => if b.role = .filling then ⟨.filling, some frame, content⟩ else b
              intake :=
                { s.intake with
                  abandonedFrames :=
                    if s.intake.abandonedFrames = 65535#16 then 65535#16 else s.intake.abandonedFrames + 1#16 } }
            (Packet.pixel attrs frame line column count samples).words)) ∧
    (32768 ≤ (frame - tag).toNat →
      exec (.pixel attrs frame line column count samples) s = .next
        (State.sentOn
          { s with intake :=
            { s.intake with
              stalePackets :=
                if s.intake.stalePackets = 65535#16 then 65535#16 else s.intake.stalePackets + 1#16 } }
          (Packet.pixel attrs frame line column count samples).words))

/-- R29, R31, R34: a PIXEL packet in LOADING or STANDBY, with no pixel in the window, or with a count of 0 or above 256,
is forwarded and changes nothing. -/
def Obligations.PixelPacketsIgnored : Prop :=
  ∀ (attrs : BitVec 8) (frame line column count : Word) (samples : List Word) (s : State),
    Receiving s → samples.length = 3 * count.toNat → samples.length ≤ 1020 →
    (s.node = .loading ∨ s.node = .standby ∨ count.toNat = 0 ∨ 256 < count.toNat ∨
      ∀ j, j < count.toNat → ¬ WallPixelInWindow s.banks.live line.toNat (column.toNat + j)) →
    exec (.pixel attrs frame line column count samples) s = .next
      (s.sentOn (Packet.pixel attrs frame line column count samples).words)

/-- R38, R39, R40, R11: with valid tables the curve level of a gained sample lies between its two knots, a greater
sample never gives a smaller gained sample, curve level or drive level, and the drive level is never greater than the
curve level. -/
def Obligations.CorrectionKeepsItsRanges : Prop :=
  ∀ (tables : Bank) (colour gain scale g g' : Nat) (v v' : Nat), tables.shaped = true → validate tables = none →
    colour < 3 → gain ≤ 8191 → scale ≤ 4096 → g = gained gain v → g' = gained gain v' → v ≤ v' →
    g ≤ 1023 ∧ g ≤ g' ∧
      tables.knot colour (g / 32) ≤ curveLevel tables colour g ∧
      curveLevel tables colour g ≤ tables.knot colour (g / 32 + 1) ∧
      curveLevel tables colour g ≤ curveLevel tables colour g' ∧
      curveLevel tables colour g' ≤ 65535 ∧
      scaled scale (curveLevel tables colour g) ≤ scaled scale (curveLevel tables colour g') ∧
      scaled scale (curveLevel tables colour g) ≤ curveLevel tables colour g ∧
      scaled 4096 (curveLevel tables colour g) = curveLevel tables colour g

/-! ### SHOW -/

/-- R48 to R51, R57: a SHOW in ACTIVE or TEST, with no commit outstanding and no band pending: it promotes the FILLING
buffer, skipping a PENDING one, or is unmatched; either way the presentation is LIVE and the hold timer restarts. -/
def Obligations.ShowsChangeThePicture : Prop :=
  ∀ (attrs : BitVec 8) (k : Word) (filling : Buffer) (s : State), Receiving s →
    s.node = .active ∨ s.node = .test → FramesOk s.frames → s.banks.commit = .none → s.thermal.pending = none →
    filling.role = .filling →
    (filling = s.frames.buffer0 ∨ filling = s.frames.buffer1 ∨ filling = s.frames.buffer2) →
    let live (f : Frames) : Frames :=
      { f with presentation := .live, holdTimer := some s.banks.live.holdTime, lastShow := some k }
    let promoted := eachBuffer s.frames fun b =>
      match b.role with
      | .shown => b
      | .filling => ⟨.pending, some k, b.content⟩
      | .pending => ⟨.filling, none, filling.content⟩
      | .free => ⟨.filling, none, filling.content⟩
    let packet := (Packet.showFrame attrs k).words
    (filling.tag = none ∨ filling.tag = some k →
      (¬ HasRole s.frames .pending →
        exec (.showFrame attrs k) s = .next (State.sentOn { s with frames := live promoted } packet)) ∧
      (∀ (skipped : Buffer) (tag : Word), skipped.role = .pending → skipped.tag = some tag →
        (skipped = s.frames.buffer0 ∨ skipped = s.frames.buffer1 ∨ skipped = s.frames.buffer2) →
        exec (.showFrame attrs k) s = .next
          (State.sentOn
            { s with
              frames :=
                { live promoted with
                  skippedFrames :=
                    if s.frames.skippedFrames = 65535#16 then 65535#16 else s.frames.skippedFrames + 1#16 }
              queue := s.queue.raise s.address .frameSkipped (some tag) }
            packet))) ∧
    (∀ tag : Word, filling.tag = some tag → tag ≠ k →
      ∃ newest, NewestContent s.frames newest ∧
        exec (.showFrame attrs k) s = .next
          (State.sentOn
            { s with frames :=
              { live (eachBuffer s.frames fun b => if b.role = .filling then ⟨.filling, none, newest⟩ else b) with
                unmatchedShows :=
                  if s.frames.unmatchedShows = 65535#16 then 65535#16 else s.frames.unmatchedShows + 1#16 } }
            packet))

/-- R24, R25, R48, R75, Table 1-8: a SHOW in LOADING changes nothing; in STANDBY the Table Banks act on it, then the
Thermal Monitor applies the pending band, and the Frame Buffers take only its number. -/
def Obligations.ShowsOutsideThePicture : Prop :=
  ∀ (attrs : BitVec 8) (k : Word) (s : State), Receiving s →
    (s.node = .loading → exec (.showFrame attrs k) s = .next (s.sentOn (Packet.showFrame attrs k).words)) ∧
    (s.node = .standby →
      exec (.showFrame attrs k) s = .next
        (State.sentOn
          { afterBand (afterCommitTest s k) with frames := { s.frames with lastShow := some k } }
          (Packet.showFrame attrs k).words))

/-- R24, R26, R27, R48, R57, R75: in ACTIVE and TEST the Table Banks act on a SHOW first, then the Thermal Monitor applies
the pending band, then the Frame Buffers act as they do on a SHOW that finds neither (`ShowsChangeThePicture`), on the
state those two leave: their notices come first, the picture's after them, and the hold time is the one live after the
commit. -/
def Obligations.CommitsApplyBeforeTheFrame : Prop :=
  ∀ (attrs : BitVec 8) (k : Word) (s : State), Receiving s → s.node = .active ∨ s.node = .test →
    let u := afterBand (afterCommitTest s k)
    (Receiving u ∧ u.node = s.node ∧ u.frames = s.frames ∧ u.thermal.pending = none) ∧
    ∃ t, exec (.showFrame attrs k) { u with banks := { u.banks with commit := .none } } = .next t ∧
      exec (.showFrame attrs k) s = .next { t with banks := u.banks } ∧
      t.thermal = u.thermal ∧ t.frames.holdTimer = some u.banks.live.holdTime ∧ t.frames.presentation = .live ∧
      t.frames.lastShow = some k ∧ t.store = s.store ∧ t.scan = s.scan ∧ t.node = s.node ∧ t.address = s.address ∧
      t.commands = s.commands ∧ t.intake = s.intake ∧ t.out = s.out ∧ t.pending = s.pending ∧
      t.ring = (s.sentOn (Packet.showFrame attrs k).words).ring

/-! ### Scan Output and presentation state -/

/-- R52, R58, R60, R61, R62, R63: at a refresh boundary a PENDING buffer is presented, then the refresh code and the output
source are chosen; what each row of the tile is driven with from then on: nothing, the pattern's levels, or the levels of
the SHOWN buffer. -/
def Obligations.RefreshBoundaryPresents : Prop :=
  ∀ s : State, s.resetPin = false →
    let presented := eachBuffer s.frames fun b =>
      if b.role = .pending then ⟨.shown, b.tag, b.content⟩
      else if b.role = .shown ∧ (s.frames.buffer0.role = .pending ∨ s.frames.buffer1.role = .pending ∨
        s.frames.buffer2.role = .pending) then ⟨.free, none, b.content⟩
      else b
    let profile := (s.banks.live.bands.getD (7 + s.thermal.applied) 0).toNat
    let code : BitVec 2 :=
      if s.node = .loading then s.scan.refreshCode
      else (s.banks.live.profile.getD (4 * profile + 3) 0).setWidth 2
    let dark := s.node = .loading ∨ s.node = .standby ∨ s.frames.presentation = .dark ∨ s.thermal.cutoff = .cut
    let t : State :=
      { s with
        frames := presented
        scan :=
          { s.scan with
            refreshCode := code
            cycleCode := code
            source :=
              if dark then .dark
              else if s.node = .test then (s.scan.pattern.map Source.pattern).getD .dark
              else .picture } }
    exec .refreshBoundary s = .next t ∧
    ∀ r c colour, r < 32 → c < 32 → colour < 3 →
      ((t.rowLevels r).length = 96 ∧ (t.rowLevels r).getD (3 * c + colour) 0 = t.driveLevel r c colour) ∧
      (dark → t.driveLevel r c colour = 0) ∧
      (¬ dark → s.node = .test →
        (∀ red green blue, s.scan.pattern = some (.solid red green blue) →
          t.driveLevel r c 0 = red ∧ t.driveLevel r c 1 = green ∧ t.driveLevel r c 2 = blue) ∧
        (s.scan.pattern = some .columnRamp → (t.driveLevel r c colour).toNat = 2047 * c) ∧
        (s.scan.pattern = some .checker →
          t.driveLevel r c colour = if (r + c) % 2 = 0 then 65535#16 else 0#16)) ∧
      (¬ dark → s.node ≠ .test → FramesOk s.frames → ∀ shown : Buffer, shown.role = .shown →
        (shown = presented.buffer0 ∨ shown = presented.buffer1 ∨ shown = presented.buffer2) →
        t.driveLevel r c colour = shown.content.getD ((r * 32 + c) * 3 + colour) 0)

/-- R55, R56, R8: the hold timer expires in LIVE and in HOLD. -/
def Obligations.HoldTimerExpires : Prop :=
  ∀ (s : State) (time : Nat), s.frames.holdTimer = some time →
    (s.frames.presentation = .live →
      exec .holdTimerExpiry s = .next
        { s with
          frames :=
            { s.frames with
              presentation := .hold
              holdTimer :=
                if (s.banks.live.timing.getD 1 0).toNat = 0 then none
                else some (s.banks.live.timing.getD 1 0).toNat }
          queue := s.queue.raise s.address .holdEntered s.frames.lastShow }) ∧
    (s.frames.presentation = .hold →
      exec .holdTimerExpiry s = .next
        { s with
          frames := { s.frames with presentation := .dark, holdTimer := none }
          scan := { s.scan with source := .dark }
          queue := s.queue.raise s.address .darkEntered s.frames.lastShow })

/-! ### Thermal Monitor -/

/-- R68, R69: the sample timer restarts with the live interval, and a conversion request is sent if none is
outstanding. -/
def Obligations.SampleTimerExpires : Prop :=
  ∀ (s : State) (time : Nat), s.thermal.sampleTimer = some time →
    let interval := (s.banks.live.timing.getD 2 0).toNat
    (s.thermal.request = none →
      exec .sampleTimerExpiry s = .next
        { s with
          out := s.out ++ [.conversionRequest]
          thermal := { s.thermal with sampleTimer := some interval, request := some 20 } }) ∧
    (∀ limit : Nat, s.thermal.request = some limit →
      exec .sampleTimerExpiry s = .next { s with thermal := { s.thermal with sampleTimer := some interval } })

/-- R69, R70, R74, R75, R78: a good reading: the band placed and made pending or applied, then the cutoff, with their
notices in that order; with no request outstanding the answer is ignored. That any answer taken while a request is
outstanding completes that request, one to an earlier, ended request too, is the model's choice (log entry 17). -/
def Obligations.GoodReadingsPlaceAndCut : Prop :=
  ∀ (s : State) (reading : Word),
    (s.thermal.request = none → exec (.sensorAnswer reading) s = .next s) ∧
    (∀ limit : Nat, s.thermal.request = some limit → -80 ≤ reading.toInt → reading.toInt ≤ 250 →
      let t := reading.toInt
      let placed :=
        if s.thermal.sensor = .fault then placeFresh s.banks.live t
        else placeHysteresis s.banks.live t s.thermal.applied
      let moves := placed ≠ s.thermal.applied
      let atOnce := s.node = .standby ∨ s.frames.presentation ≠ .live
      let banded := if moves ∧ atOnce then s.queue.raise s.address .bandChanged (some (BitVec.ofNat 16 placed))
        else s.queue
      let enters := s.thermal.cutoff = .clear ∧ s.banks.live.cutoff ≤ t
      let leaves := s.thermal.cutoff = .cut ∧ t < s.banks.live.cutoff - s.banks.live.cutoffHysteresis
      exec (.sensorAnswer reading) s = .next
        { s with
          thermal :=
            { s.thermal with
              request := none
              reading := some t
              sensor := .ok
              applied := if atOnce then placed else s.thermal.applied
              pending := if moves ∧ ¬ atOnce then some placed else none
              cutoff := if enters then .cut else if leaves then .clear else s.thermal.cutoff }
          scan := if enters then { s.scan with source := .dark } else s.scan
          queue :=
            if enters then banded.raise s.address .cutoffEntered (some reading)
            else if leaves then banded.raise s.address .cutoffLeft (some reading)
            else banded })

/-- R69, R71, R74, R75: an answer out of range and the expiry of the answer limit are faults: SENSOR FAULT with its
cause, then the fallback band, pending or applied; the reading and the cutoff state stay. That any answer taken while a
request is outstanding completes that request, one to an earlier, ended request too, is the model's choice (log entry
17). -/
def Obligations.FaultsFallBack : Prop :=
  ∀ (s : State) (limit : Nat), s.thermal.request = some limit →
    let fallback := (s.banks.live.timing.getD 3 0).toNat
    let moves := fallback ≠ s.thermal.applied
    let atOnce := s.node = .standby ∨ s.frames.presentation ≠ .live
    let faulted (cause : Word) : State :=
      { s with
        thermal :=
          { s.thermal with
            request := none
            sensor := .fault
            applied := if atOnce then fallback else s.thermal.applied
            pending := if moves ∧ ¬ atOnce then some fallback else none }
        queue :=
          if moves ∧ atOnce then
            (s.queue.raise s.address .sensorFault (some cause)).raise s.address .bandChanged
              (some (BitVec.ofNat 16 fallback))
          else s.queue.raise s.address .sensorFault (some cause) }
    exec .answerLimitExpiry s = .next (faulted 1#16) ∧
      ∀ reading : Word, reading.toInt < -80 ∨ 250 < reading.toInt →
        exec (.sensorAnswer reading) s = .next (faulted 2#16)

/-- R72, R73, R16: the band placed afresh is the largest whose threshold the reading reaches; the band placed with
hysteresis lies where no further step up or down is due, above the band it came from only with the hysteresis passed
and below it only under its own threshold. -/
def Obligations.BandsArePlaced : Prop :=
  ∀ (tables : Bank) (t : Int) (b : Nat), 1 ≤ tables.bandCount → b < tables.bandCount →
    (∀ i, 1 ≤ i → i + 1 < tables.bandCount → tables.threshold (i + 1) - tables.threshold i > tables.hysteresis) →
    1 ≤ tables.hysteresis →
    let fresh := placeFresh tables t
    let placed := placeHysteresis tables t b
    (fresh < tables.bandCount ∧ (1 ≤ fresh → tables.threshold fresh ≤ t) ∧
      ∀ c, fresh < c → c < tables.bandCount → t < tables.threshold c) ∧
    (placed < tables.bandCount ∧
      (b < placed → tables.threshold placed + tables.hysteresis ≤ t) ∧
      (b ≤ placed → placed + 1 < tables.bandCount → t < tables.threshold (placed + 1) + tables.hysteresis) ∧
      (placed < b → t < tables.threshold (placed + 1)) ∧
      (1 ≤ placed → tables.threshold placed ≤ t))

/-! ### Table Store -/

/-- R86, R87, R88, R122: the completions of ERASE, PROGRAM and VERIFY. That PROGRAM's operand lists the entries the memory
failed to take is the model's choice (log entry 13); VERIFY finds every entry equal or not. -/
def Obligations.StorePhasesComplete : Prop :=
  ∀ (s : State) (target : ImageId) (generation : BitVec 32),
    let withImage (m : Image) : Store :=
      { s.store with
        image0 := if target = .image0 then m else s.store.image0
        image1 := if target = .image1 then m else s.store.image1 }
    let result (code : Word) : ReplyQueue :=
      { s.queue with entries := s.queue.entries.map fun e =>
          match e with
          | .record r => .record r
          | .reservation w position logicalId =>
            .record ⟨position, logicalId, false,
              .reply .storeResult
                [w, code, if target = .image0 then 0#16 else 1#16, (generation >>> 16).setWidth 16,
                  generation.setWidth 16]⟩ }
    (s.store.unit = .storing .erase target generation →
      exec .eraseCompletion s = .next { s with store := { s.store with unit := .storing .program target generation } }) ∧
    (s.store.unit = .storing .program target generation →
      exec (.programCompletion []) s = .next
        { s with store :=
          { withImage (.programmed s.banks.live) with unit := .storing .verify target generation } } ∧
      ∀ defects : List Defect, exec (.programCompletion defects) s = .next
        { s with store :=
          { withImage (.programmed (programmedTables s.banks.live defects)) with
            unit := .storing .verify target generation } }) ∧
    (∀ tables : Bank, s.store.unit = .storing .verify target generation →
      (if target = .image0 then s.store.image0 else s.store.image1) = .programmed tables →
      (tables = s.banks.live →
        exec .verifyCompletion s = .next
          { s with
            store :=
              { withImage (.written generation s.banks.live (imageCheck generation s.banks.live)) with
                record0 := if target = .image0 then .valid generation else s.store.record0
                record1 := if target = .image1 then .valid generation else s.store.record1
                unit := .idle }
            queue := result 0#16 }) ∧
      (tables ≠ s.banks.live →
        exec .verifyCompletion s = .next { s with store := { s.store with unit := .idle }, queue := result 1#16 }))

/-- R91, R9, R10, R122: the completion of a load, with a source and without one. -/
def Obligations.LoadCompletes : Prop :=
  ∀ s : State,
    let result (tail : List Word) : ReplyQueue :=
      { s.queue with entries := s.queue.entries.map fun e =>
          match e with
          | .record r => .record r
          | .reservation w position logicalId =>
            .record ⟨position, logicalId, false, .reply .loadResult (w :: tail)⟩ }
    (∀ (source : ImageId) (generation : BitVec 32) (tables : Bank) (check : Word),
      s.store.unit = .reading (some source) →
      (if source = .image0 then s.store.image0 else s.store.image1) = .written generation tables check →
      (if source = .image0 then s.store.record0 else s.store.record1) = .valid generation →
      exec .loadCompletion s = .next
        { s with
          banks := { s.banks with staged := tables, dirty := 0b111111#6 }
          store := { s.store with unit := .idle }
          queue :=
            result
              [0#16, if source = .image0 then 0#16 else 1#16, (generation >>> 16).setWidth 16,
                generation.setWidth 16] }) ∧
    (s.store.unit = .reading none →
      exec .loadCompletion s = .next
        { s with store := { s.store with unit := .idle }, queue := result [2#16, 65535#16, 0#16, 0#16] })

/-- R86, R87, R27, R93: while the store unit is STORING no command writes the image that is not the target, and none
changes the live bank. That a reset leaves the live bank as it was until the start-up read completes is the model's
choice (log entry 4). -/
def Obligations.StoresTouchOnlyTheirTarget : Prop :=
  ∀ (i : Instr) (phase : Phase) (target : ImageId) (generation : BitVec 32) (s t : State),
    s.store.unit = .storing phase target generation → exec i s = .next t →
    (target = .image0 → t.store.image1 = s.store.image1) ∧ (target = .image1 → t.store.image0 = s.store.image0) ∧
      t.banks.live = s.banks.live

/-! ### Invariants that every step keeps -/

/-- R45: one SHOWN buffer, one FILLING buffer, the third FREE or PENDING, each with its 3072 levels and a tag as its
role has it. -/
def Obligations.FramesStayOk : Prop :=
  ∀ s t : State, FramesOk s.frames → step s = .next t → FramesOk t.frames

/-- R58, R62: the LED outputs are dark whenever a forced-dark condition holds: every level of every row is 0. -/
def Obligations.OutputsStayDark : Prop :=
  ∀ s t : State, OutputsOk s → step s = .next t →
    OutputsOk t ∧
      (t.forcedDark = true →
        ∀ r c colour : Nat, t.driveLevel r c colour = 0#16 ∧ t.rowLevels r = List.replicate 96 0#16)

/-- R119, R125, R127, R99: the Reply Queue keeps its limits, no notice kind stands twice, no room is left while the
backlog holds a kind, and the replay cache holds a command reply without the REPLAY flag. -/
def Obligations.ReplyQueueStaysBounded : Prop :=
  ∀ s t : State, QueueOk s.queue → CacheOk s.commands → step s = .next t →
    QueueOk t.queue ∧ CacheOk t.commands

/-- R1, R2, R9, R10, R11, R74, R76, R81, R83, R85, R122: the tables, the store, the bands and the node state stay as the
manual says they are at every moment, and so does the Ring Interface (R145 to R148, R157, R163). What it says of the
banks in LOADING rests on the model's choice to keep them through resets (log entry 4). -/
def Obligations.CoreStaysOk : Prop :=
  ∀ s t : State, CoreOk s → RingOk s → step s = .next t → CoreOk t ∧ RingOk t

end
end

