-- ==== Sys2Proof/Laws/State.lean ====
section
/-! SUPPORT. Which fields of the state each named update leaves alone and what it writes: one lemma a field, so that no
later proof unfolds a record update. Here the updates without a case split. -/

namespace Sys2Proof.Machine

/-! ### `State.raise` -/

@[simp] theorem State.raise_pending (s : State) (k : NoticeKind) (d : Option Word) : (s.raise k d).pending = s.pending := rfl
@[simp] theorem State.raise_out (s : State) (k : NoticeKind) (d : Option Word) : (s.raise k d).out = s.out := rfl
@[simp] theorem State.raise_resetPin (s : State) (k : NoticeKind) (d : Option Word) : (s.raise k d).resetPin = s.resetPin := rfl
@[simp] theorem State.raise_ring (s : State) (k : NoticeKind) (d : Option Word) : (s.raise k d).ring = s.ring := rfl
@[simp] theorem State.raise_address (s : State) (k : NoticeKind) (d : Option Word) : (s.raise k d).address = s.address := rfl
@[simp] theorem State.raise_commands (s : State) (k : NoticeKind) (d : Option Word) : (s.raise k d).commands = s.commands := rfl
@[simp] theorem State.raise_banks (s : State) (k : NoticeKind) (d : Option Word) : (s.raise k d).banks = s.banks := rfl
@[simp] theorem State.raise_intake (s : State) (k : NoticeKind) (d : Option Word) : (s.raise k d).intake = s.intake := rfl
@[simp] theorem State.raise_frames (s : State) (k : NoticeKind) (d : Option Word) : (s.raise k d).frames = s.frames := rfl
@[simp] theorem State.raise_scan (s : State) (k : NoticeKind) (d : Option Word) : (s.raise k d).scan = s.scan := rfl
@[simp] theorem State.raise_thermal (s : State) (k : NoticeKind) (d : Option Word) : (s.raise k d).thermal = s.thermal := rfl
@[simp] theorem State.raise_store (s : State) (k : NoticeKind) (d : Option Word) : (s.raise k d).store = s.store := rfl
@[simp] theorem State.raise_node (s : State) (k : NoticeKind) (d : Option Word) : (s.raise k d).node = s.node := rfl

/-! ### `State.enqueue` -/

@[simp] theorem State.enqueue_pending (s : State) (e : SendEntry) : (s.enqueue e).pending = s.pending := rfl
@[simp] theorem State.enqueue_out (s : State) (e : SendEntry) : (s.enqueue e).out = s.out := rfl
@[simp] theorem State.enqueue_resetPin (s : State) (e : SendEntry) : (s.enqueue e).resetPin = s.resetPin := rfl
@[simp] theorem State.enqueue_address (s : State) (e : SendEntry) : (s.enqueue e).address = s.address := rfl
@[simp] theorem State.enqueue_commands (s : State) (e : SendEntry) : (s.enqueue e).commands = s.commands := rfl
@[simp] theorem State.enqueue_queue (s : State) (e : SendEntry) : (s.enqueue e).queue = s.queue := rfl
@[simp] theorem State.enqueue_banks (s : State) (e : SendEntry) : (s.enqueue e).banks = s.banks := rfl
@[simp] theorem State.enqueue_intake (s : State) (e : SendEntry) : (s.enqueue e).intake = s.intake := rfl
@[simp] theorem State.enqueue_frames (s : State) (e : SendEntry) : (s.enqueue e).frames = s.frames := rfl
@[simp] theorem State.enqueue_scan (s : State) (e : SendEntry) : (s.enqueue e).scan = s.scan := rfl
@[simp] theorem State.enqueue_thermal (s : State) (e : SendEntry) : (s.enqueue e).thermal = s.thermal := rfl
@[simp] theorem State.enqueue_store (s : State) (e : SendEntry) : (s.enqueue e).store = s.store := rfl
@[simp] theorem State.enqueue_node (s : State) (e : SendEntry) : (s.enqueue e).node = s.node := rfl

/-! ### `State.forward` -/

@[simp] theorem State.forward_pending (s : State) (ws : List Word) : (s.forward ws).pending = s.pending := rfl
@[simp] theorem State.forward_out (s : State) (ws : List Word) : (s.forward ws).out = s.out := rfl
@[simp] theorem State.forward_resetPin (s : State) (ws : List Word) : (s.forward ws).resetPin = s.resetPin := rfl
@[simp] theorem State.forward_address (s : State) (ws : List Word) : (s.forward ws).address = s.address := rfl
@[simp] theorem State.forward_commands (s : State) (ws : List Word) : (s.forward ws).commands = s.commands := rfl
@[simp] theorem State.forward_queue (s : State) (ws : List Word) : (s.forward ws).queue = s.queue := rfl
@[simp] theorem State.forward_banks (s : State) (ws : List Word) : (s.forward ws).banks = s.banks := rfl
@[simp] theorem State.forward_intake (s : State) (ws : List Word) : (s.forward ws).intake = s.intake := rfl
@[simp] theorem State.forward_frames (s : State) (ws : List Word) : (s.forward ws).frames = s.frames := rfl
@[simp] theorem State.forward_scan (s : State) (ws : List Word) : (s.forward ws).scan = s.scan := rfl
@[simp] theorem State.forward_thermal (s : State) (ws : List Word) : (s.forward ws).thermal = s.thermal := rfl
@[simp] theorem State.forward_store (s : State) (ws : List Word) : (s.forward ws).store = s.store := rfl
@[simp] theorem State.forward_node (s : State) (ws : List Word) : (s.forward ws).node = s.node := rfl

/-! ### `State.emit` -/

@[simp] theorem State.emit_pending (s : State) (o : Output) : (s.emit o).pending = s.pending := rfl
@[simp] theorem State.emit_resetPin (s : State) (o : Output) : (s.emit o).resetPin = s.resetPin := rfl
@[simp] theorem State.emit_ring (s : State) (o : Output) : (s.emit o).ring = s.ring := rfl
@[simp] theorem State.emit_address (s : State) (o : Output) : (s.emit o).address = s.address := rfl
@[simp] theorem State.emit_commands (s : State) (o : Output) : (s.emit o).commands = s.commands := rfl
@[simp] theorem State.emit_queue (s : State) (o : Output) : (s.emit o).queue = s.queue := rfl
@[simp] theorem State.emit_banks (s : State) (o : Output) : (s.emit o).banks = s.banks := rfl
@[simp] theorem State.emit_intake (s : State) (o : Output) : (s.emit o).intake = s.intake := rfl
@[simp] theorem State.emit_frames (s : State) (o : Output) : (s.emit o).frames = s.frames := rfl
@[simp] theorem State.emit_scan (s : State) (o : Output) : (s.emit o).scan = s.scan := rfl
@[simp] theorem State.emit_thermal (s : State) (o : Output) : (s.emit o).thermal = s.thermal := rfl
@[simp] theorem State.emit_store (s : State) (o : Output) : (s.emit o).store = s.store := rfl
@[simp] theorem State.emit_node (s : State) (o : Output) : (s.emit o).node = s.node := rfl

/-! ### `State.forceDark` -/

@[simp] theorem State.forceDark_pending (s : State) : s.forceDark.pending = s.pending := rfl
@[simp] theorem State.forceDark_out (s : State) : s.forceDark.out = s.out := rfl
@[simp] theorem State.forceDark_resetPin (s : State) : s.forceDark.resetPin = s.resetPin := rfl
@[simp] theorem State.forceDark_ring (s : State) : s.forceDark.ring = s.ring := rfl
@[simp] theorem State.forceDark_address (s : State) : s.forceDark.address = s.address := rfl
@[simp] theorem State.forceDark_commands (s : State) : s.forceDark.commands = s.commands := rfl
@[simp] theorem State.forceDark_queue (s : State) : s.forceDark.queue = s.queue := rfl
@[simp] theorem State.forceDark_banks (s : State) : s.forceDark.banks = s.banks := rfl
@[simp] theorem State.forceDark_intake (s : State) : s.forceDark.intake = s.intake := rfl
@[simp] theorem State.forceDark_frames (s : State) : s.forceDark.frames = s.frames := rfl
@[simp] theorem State.forceDark_thermal (s : State) : s.forceDark.thermal = s.thermal := rfl
@[simp] theorem State.forceDark_store (s : State) : s.forceDark.store = s.store := rfl
@[simp] theorem State.forceDark_node (s : State) : s.forceDark.node = s.node := rfl

/-! ### `State.startLive` -/

@[simp] theorem State.startLive_pending (s : State) : s.startLive.pending = s.pending := rfl
@[simp] theorem State.startLive_out (s : State) : s.startLive.out = s.out := rfl
@[simp] theorem State.startLive_resetPin (s : State) : s.startLive.resetPin = s.resetPin := rfl
@[simp] theorem State.startLive_ring (s : State) : s.startLive.ring = s.ring := rfl
@[simp] theorem State.startLive_address (s : State) : s.startLive.address = s.address := rfl
@[simp] theorem State.startLive_commands (s : State) : s.startLive.commands = s.commands := rfl
@[simp] theorem State.startLive_queue (s : State) : s.startLive.queue = s.queue := rfl
@[simp] theorem State.startLive_banks (s : State) : s.startLive.banks = s.banks := rfl
@[simp] theorem State.startLive_intake (s : State) : s.startLive.intake = s.intake := rfl
@[simp] theorem State.startLive_scan (s : State) : s.startLive.scan = s.scan := rfl
@[simp] theorem State.startLive_thermal (s : State) : s.startLive.thermal = s.thermal := rfl
@[simp] theorem State.startLive_store (s : State) : s.startLive.store = s.store := rfl
@[simp] theorem State.startLive_node (s : State) : s.startLive.node = s.node := rfl

/-! ### `State.setPlaced` -/

@[simp] theorem State.setPlaced_pending (s : State) (b : Nat) : (s.setPlaced b).pending = s.pending := rfl
@[simp] theorem State.setPlaced_out (s : State) (b : Nat) : (s.setPlaced b).out = s.out := rfl
@[simp] theorem State.setPlaced_resetPin (s : State) (b : Nat) : (s.setPlaced b).resetPin = s.resetPin := rfl
@[simp] theorem State.setPlaced_ring (s : State) (b : Nat) : (s.setPlaced b).ring = s.ring := rfl
@[simp] theorem State.setPlaced_address (s : State) (b : Nat) : (s.setPlaced b).address = s.address := rfl
@[simp] theorem State.setPlaced_commands (s : State) (b : Nat) : (s.setPlaced b).commands = s.commands := rfl
@[simp] theorem State.setPlaced_queue (s : State) (b : Nat) : (s.setPlaced b).queue = s.queue := rfl
@[simp] theorem State.setPlaced_banks (s : State) (b : Nat) : (s.setPlaced b).banks = s.banks := rfl
@[simp] theorem State.setPlaced_intake (s : State) (b : Nat) : (s.setPlaced b).intake = s.intake := rfl
@[simp] theorem State.setPlaced_frames (s : State) (b : Nat) : (s.setPlaced b).frames = s.frames := rfl
@[simp] theorem State.setPlaced_scan (s : State) (b : Nat) : (s.setPlaced b).scan = s.scan := rfl
@[simp] theorem State.setPlaced_store (s : State) (b : Nat) : (s.setPlaced b).store = s.store := rfl
@[simp] theorem State.setPlaced_node (s : State) (b : Nat) : (s.setPlaced b).node = s.node := rfl

/-! ### `State.endRequest` -/

@[simp] theorem State.endRequest_pending (s : State) : s.endRequest.pending = s.pending := rfl
@[simp] theorem State.endRequest_out (s : State) : s.endRequest.out = s.out := rfl
@[simp] theorem State.endRequest_resetPin (s : State) : s.endRequest.resetPin = s.resetPin := rfl
@[simp] theorem State.endRequest_ring (s : State) : s.endRequest.ring = s.ring := rfl
@[simp] theorem State.endRequest_address (s : State) : s.endRequest.address = s.address := rfl
@[simp] theorem State.endRequest_commands (s : State) : s.endRequest.commands = s.commands := rfl
@[simp] theorem State.endRequest_queue (s : State) : s.endRequest.queue = s.queue := rfl
@[simp] theorem State.endRequest_banks (s : State) : s.endRequest.banks = s.banks := rfl
@[simp] theorem State.endRequest_intake (s : State) : s.endRequest.intake = s.intake := rfl
@[simp] theorem State.endRequest_frames (s : State) : s.endRequest.frames = s.frames := rfl
@[simp] theorem State.endRequest_scan (s : State) : s.endRequest.scan = s.scan := rfl
@[simp] theorem State.endRequest_store (s : State) : s.endRequest.store = s.store := rfl
@[simp] theorem State.endRequest_node (s : State) : s.endRequest.node = s.node := rfl

/-! ### `State.unmatched` -/

@[simp] theorem State.unmatched_pending (s : State) : s.unmatched.pending = s.pending := rfl
@[simp] theorem State.unmatched_out (s : State) : s.unmatched.out = s.out := rfl
@[simp] theorem State.unmatched_resetPin (s : State) : s.unmatched.resetPin = s.resetPin := rfl
@[simp] theorem State.unmatched_ring (s : State) : s.unmatched.ring = s.ring := rfl
@[simp] theorem State.unmatched_address (s : State) : s.unmatched.address = s.address := rfl
@[simp] theorem State.unmatched_commands (s : State) : s.unmatched.commands = s.commands := rfl
@[simp] theorem State.unmatched_queue (s : State) : s.unmatched.queue = s.queue := rfl
@[simp] theorem State.unmatched_banks (s : State) : s.unmatched.banks = s.banks := rfl
@[simp] theorem State.unmatched_intake (s : State) : s.unmatched.intake = s.intake := rfl
@[simp] theorem State.unmatched_scan (s : State) : s.unmatched.scan = s.scan := rfl
@[simp] theorem State.unmatched_thermal (s : State) : s.unmatched.thermal = s.thermal := rfl
@[simp] theorem State.unmatched_store (s : State) : s.unmatched.store = s.store := rfl
@[simp] theorem State.unmatched_node (s : State) : s.unmatched.node = s.node := rfl

/-! ### `State.discardStale` -/

@[simp] theorem State.discardStale_pending (s : State) : s.discardStale.pending = s.pending := rfl
@[simp] theorem State.discardStale_out (s : State) : s.discardStale.out = s.out := rfl
@[simp] theorem State.discardStale_resetPin (s : State) : s.discardStale.resetPin = s.resetPin := rfl
@[simp] theorem State.discardStale_ring (s : State) : s.discardStale.ring = s.ring := rfl
@[simp] theorem State.discardStale_address (s : State) : s.discardStale.address = s.address := rfl
@[simp] theorem State.discardStale_commands (s : State) : s.discardStale.commands = s.commands := rfl
@[simp] theorem State.discardStale_queue (s : State) : s.discardStale.queue = s.queue := rfl
@[simp] theorem State.discardStale_banks (s : State) : s.discardStale.banks = s.banks := rfl
@[simp] theorem State.discardStale_frames (s : State) : s.discardStale.frames = s.frames := rfl
@[simp] theorem State.discardStale_scan (s : State) : s.discardStale.scan = s.scan := rfl
@[simp] theorem State.discardStale_thermal (s : State) : s.discardStale.thermal = s.thermal := rfl
@[simp] theorem State.discardStale_store (s : State) : s.discardStale.store = s.store := rfl
@[simp] theorem State.discardStale_node (s : State) : s.discardStale.node = s.node := rfl

/-! ### `State.takePixels` -/

@[simp] theorem State.takePixels_pending (s : State) (n : Word) (c : List Word) (ps : List TilePixel) : (s.takePixels n c ps).pending = s.pending := rfl
@[simp] theorem State.takePixels_out (s : State) (n : Word) (c : List Word) (ps : List TilePixel) : (s.takePixels n c ps).out = s.out := rfl
@[simp] theorem State.takePixels_resetPin (s : State) (n : Word) (c : List Word) (ps : List TilePixel) : (s.takePixels n c ps).resetPin = s.resetPin := rfl
@[simp] theorem State.takePixels_ring (s : State) (n : Word) (c : List Word) (ps : List TilePixel) : (s.takePixels n c ps).ring = s.ring := rfl
@[simp] theorem State.takePixels_address (s : State) (n : Word) (c : List Word) (ps : List TilePixel) : (s.takePixels n c ps).address = s.address := rfl
@[simp] theorem State.takePixels_commands (s : State) (n : Word) (c : List Word) (ps : List TilePixel) : (s.takePixels n c ps).commands = s.commands := rfl
@[simp] theorem State.takePixels_queue (s : State) (n : Word) (c : List Word) (ps : List TilePixel) : (s.takePixels n c ps).queue = s.queue := rfl
@[simp] theorem State.takePixels_banks (s : State) (n : Word) (c : List Word) (ps : List TilePixel) : (s.takePixels n c ps).banks = s.banks := rfl
@[simp] theorem State.takePixels_intake (s : State) (n : Word) (c : List Word) (ps : List TilePixel) : (s.takePixels n c ps).intake = s.intake := rfl
@[simp] theorem State.takePixels_scan (s : State) (n : Word) (c : List Word) (ps : List TilePixel) : (s.takePixels n c ps).scan = s.scan := rfl
@[simp] theorem State.takePixels_thermal (s : State) (n : Word) (c : List Word) (ps : List TilePixel) : (s.takePixels n c ps).thermal = s.thermal := rfl
@[simp] theorem State.takePixels_store (s : State) (n : Word) (c : List Word) (ps : List TilePixel) : (s.takePixels n c ps).store = s.store := rfl
@[simp] theorem State.takePixels_node (s : State) (n : Word) (c : List Word) (ps : List TilePixel) : (s.takePixels n c ps).node = s.node := rfl

/-! ### `State.retag` -/

@[simp] theorem State.retag_pending (s : State) (n : Word) (ps : List TilePixel) : (s.retag n ps).pending = s.pending := rfl
@[simp] theorem State.retag_out (s : State) (n : Word) (ps : List TilePixel) : (s.retag n ps).out = s.out := rfl
@[simp] theorem State.retag_resetPin (s : State) (n : Word) (ps : List TilePixel) : (s.retag n ps).resetPin = s.resetPin := rfl
@[simp] theorem State.retag_ring (s : State) (n : Word) (ps : List TilePixel) : (s.retag n ps).ring = s.ring := rfl
@[simp] theorem State.retag_address (s : State) (n : Word) (ps : List TilePixel) : (s.retag n ps).address = s.address := rfl
@[simp] theorem State.retag_commands (s : State) (n : Word) (ps : List TilePixel) : (s.retag n ps).commands = s.commands := rfl
@[simp] theorem State.retag_queue (s : State) (n : Word) (ps : List TilePixel) : (s.retag n ps).queue = s.queue := rfl
@[simp] theorem State.retag_banks (s : State) (n : Word) (ps : List TilePixel) : (s.retag n ps).banks = s.banks := rfl
@[simp] theorem State.retag_scan (s : State) (n : Word) (ps : List TilePixel) : (s.retag n ps).scan = s.scan := rfl
@[simp] theorem State.retag_thermal (s : State) (n : Word) (ps : List TilePixel) : (s.retag n ps).thermal = s.thermal := rfl
@[simp] theorem State.retag_store (s : State) (n : Word) (ps : List TilePixel) : (s.retag n ps).store = s.store := rfl
@[simp] theorem State.retag_node (s : State) (n : Word) (ps : List TilePixel) : (s.retag n ps).node = s.node := rfl

/-! ### `State.reserve` -/

@[simp] theorem State.reserve_pending (s : State) (w : Word) : (s.reserve w).pending = s.pending := rfl
@[simp] theorem State.reserve_out (s : State) (w : Word) : (s.reserve w).out = s.out := rfl
@[simp] theorem State.reserve_resetPin (s : State) (w : Word) : (s.reserve w).resetPin = s.resetPin := rfl
@[simp] theorem State.reserve_ring (s : State) (w : Word) : (s.reserve w).ring = s.ring := rfl
@[simp] theorem State.reserve_address (s : State) (w : Word) : (s.reserve w).address = s.address := rfl
@[simp] theorem State.reserve_commands (s : State) (w : Word) : (s.reserve w).commands = s.commands := rfl
@[simp] theorem State.reserve_banks (s : State) (w : Word) : (s.reserve w).banks = s.banks := rfl
@[simp] theorem State.reserve_intake (s : State) (w : Word) : (s.reserve w).intake = s.intake := rfl
@[simp] theorem State.reserve_frames (s : State) (w : Word) : (s.reserve w).frames = s.frames := rfl
@[simp] theorem State.reserve_scan (s : State) (w : Word) : (s.reserve w).scan = s.scan := rfl
@[simp] theorem State.reserve_thermal (s : State) (w : Word) : (s.reserve w).thermal = s.thermal := rfl
@[simp] theorem State.reserve_store (s : State) (w : Word) : (s.reserve w).store = s.store := rfl
@[simp] theorem State.reserve_node (s : State) (w : Word) : (s.reserve w).node = s.node := rfl

/-! ### `State.copyLive` -/

@[simp] theorem State.copyLive_pending (s : State) : s.copyLive.pending = s.pending := rfl
@[simp] theorem State.copyLive_out (s : State) : s.copyLive.out = s.out := rfl
@[simp] theorem State.copyLive_resetPin (s : State) : s.copyLive.resetPin = s.resetPin := rfl
@[simp] theorem State.copyLive_ring (s : State) : s.copyLive.ring = s.ring := rfl
@[simp] theorem State.copyLive_address (s : State) : s.copyLive.address = s.address := rfl
@[simp] theorem State.copyLive_commands (s : State) : s.copyLive.commands = s.commands := rfl
@[simp] theorem State.copyLive_queue (s : State) : s.copyLive.queue = s.queue := rfl
@[simp] theorem State.copyLive_intake (s : State) : s.copyLive.intake = s.intake := rfl
@[simp] theorem State.copyLive_frames (s : State) : s.copyLive.frames = s.frames := rfl
@[simp] theorem State.copyLive_scan (s : State) : s.copyLive.scan = s.scan := rfl
@[simp] theorem State.copyLive_thermal (s : State) : s.copyLive.thermal = s.thermal := rfl
@[simp] theorem State.copyLive_store (s : State) : s.copyLive.store = s.store := rfl
@[simp] theorem State.copyLive_node (s : State) : s.copyLive.node = s.node := rfl

/-! ### `State.cancelCommit` -/

@[simp] theorem State.cancelCommit_pending (s : State) : s.cancelCommit.pending = s.pending := rfl
@[simp] theorem State.cancelCommit_out (s : State) : s.cancelCommit.out = s.out := rfl
@[simp] theorem State.cancelCommit_resetPin (s : State) : s.cancelCommit.resetPin = s.resetPin := rfl
@[simp] theorem State.cancelCommit_ring (s : State) : s.cancelCommit.ring = s.ring := rfl
@[simp] theorem State.cancelCommit_address (s : State) : s.cancelCommit.address = s.address := rfl
@[simp] theorem State.cancelCommit_commands (s : State) : s.cancelCommit.commands = s.commands := rfl
@[simp] theorem State.cancelCommit_queue (s : State) : s.cancelCommit.queue = s.queue := rfl
@[simp] theorem State.cancelCommit_intake (s : State) : s.cancelCommit.intake = s.intake := rfl
@[simp] theorem State.cancelCommit_frames (s : State) : s.cancelCommit.frames = s.frames := rfl
@[simp] theorem State.cancelCommit_scan (s : State) : s.cancelCommit.scan = s.scan := rfl
@[simp] theorem State.cancelCommit_thermal (s : State) : s.cancelCommit.thermal = s.thermal := rfl
@[simp] theorem State.cancelCommit_store (s : State) : s.cancelCommit.store = s.store := rfl
@[simp] theorem State.cancelCommit_node (s : State) : s.cancelCommit.node = s.node := rfl

/-! ### `State.endUnicastSeries` -/

@[simp] theorem State.endUnicastSeries_pending (s : State) : s.endUnicastSeries.pending = s.pending := rfl
@[simp] theorem State.endUnicastSeries_out (s : State) : s.endUnicastSeries.out = s.out := rfl
@[simp] theorem State.endUnicastSeries_resetPin (s : State) : s.endUnicastSeries.resetPin = s.resetPin := rfl
@[simp] theorem State.endUnicastSeries_ring (s : State) : s.endUnicastSeries.ring = s.ring := rfl
@[simp] theorem State.endUnicastSeries_address (s : State) : s.endUnicastSeries.address = s.address := rfl
@[simp] theorem State.endUnicastSeries_queue (s : State) : s.endUnicastSeries.queue = s.queue := rfl
@[simp] theorem State.endUnicastSeries_banks (s : State) : s.endUnicastSeries.banks = s.banks := rfl
@[simp] theorem State.endUnicastSeries_intake (s : State) : s.endUnicastSeries.intake = s.intake := rfl
@[simp] theorem State.endUnicastSeries_frames (s : State) : s.endUnicastSeries.frames = s.frames := rfl
@[simp] theorem State.endUnicastSeries_scan (s : State) : s.endUnicastSeries.scan = s.scan := rfl
@[simp] theorem State.endUnicastSeries_thermal (s : State) : s.endUnicastSeries.thermal = s.thermal := rfl
@[simp] theorem State.endUnicastSeries_store (s : State) : s.endUnicastSeries.store = s.store := rfl
@[simp] theorem State.endUnicastSeries_node (s : State) : s.endUnicastSeries.node = s.node := rfl

/-! ### `State.countSequenceRefusal` -/

@[simp] theorem State.countSequenceRefusal_pending (s : State) : s.countSequenceRefusal.pending = s.pending := rfl
@[simp] theorem State.countSequenceRefusal_out (s : State) : s.countSequenceRefusal.out = s.out := rfl
@[simp] theorem State.countSequenceRefusal_resetPin (s : State) : s.countSequenceRefusal.resetPin = s.resetPin := rfl
@[simp] theorem State.countSequenceRefusal_ring (s : State) : s.countSequenceRefusal.ring = s.ring := rfl
@[simp] theorem State.countSequenceRefusal_address (s : State) : s.countSequenceRefusal.address = s.address := rfl
@[simp] theorem State.countSequenceRefusal_queue (s : State) : s.countSequenceRefusal.queue = s.queue := rfl
@[simp] theorem State.countSequenceRefusal_banks (s : State) : s.countSequenceRefusal.banks = s.banks := rfl
@[simp] theorem State.countSequenceRefusal_intake (s : State) : s.countSequenceRefusal.intake = s.intake := rfl
@[simp] theorem State.countSequenceRefusal_frames (s : State) : s.countSequenceRefusal.frames = s.frames := rfl
@[simp] theorem State.countSequenceRefusal_scan (s : State) : s.countSequenceRefusal.scan = s.scan := rfl
@[simp] theorem State.countSequenceRefusal_thermal (s : State) : s.countSequenceRefusal.thermal = s.thermal := rfl
@[simp] theorem State.countSequenceRefusal_store (s : State) : s.countSequenceRefusal.store = s.store := rfl
@[simp] theorem State.countSequenceRefusal_node (s : State) : s.countSequenceRefusal.node = s.node := rfl

/-! ### `State.clearCounters` -/

@[simp] theorem State.clearCounters_pending (s : State) : s.clearCounters.pending = s.pending := rfl
@[simp] theorem State.clearCounters_out (s : State) : s.clearCounters.out = s.out := rfl
@[simp] theorem State.clearCounters_resetPin (s : State) : s.clearCounters.resetPin = s.resetPin := rfl
@[simp] theorem State.clearCounters_address (s : State) : s.clearCounters.address = s.address := rfl
@[simp] theorem State.clearCounters_queue (s : State) : s.clearCounters.queue = s.queue := rfl
@[simp] theorem State.clearCounters_banks (s : State) : s.clearCounters.banks = s.banks := rfl
@[simp] theorem State.clearCounters_scan (s : State) : s.clearCounters.scan = s.scan := rfl
@[simp] theorem State.clearCounters_thermal (s : State) : s.clearCounters.thermal = s.thermal := rfl
@[simp] theorem State.clearCounters_store (s : State) : s.clearCounters.store = s.store := rfl
@[simp] theorem State.clearCounters_node (s : State) : s.clearCounters.node = s.node := rfl

/-! ### `State.stopPicture` -/

@[simp] theorem State.stopPicture_pending (s : State) : s.stopPicture.pending = s.pending := rfl
@[simp] theorem State.stopPicture_out (s : State) : s.stopPicture.out = s.out := rfl
@[simp] theorem State.stopPicture_resetPin (s : State) : s.stopPicture.resetPin = s.resetPin := rfl
@[simp] theorem State.stopPicture_ring (s : State) : s.stopPicture.ring = s.ring := rfl
@[simp] theorem State.stopPicture_address (s : State) : s.stopPicture.address = s.address := rfl
@[simp] theorem State.stopPicture_commands (s : State) : s.stopPicture.commands = s.commands := rfl
@[simp] theorem State.stopPicture_queue (s : State) : s.stopPicture.queue = s.queue := rfl
@[simp] theorem State.stopPicture_banks (s : State) : s.stopPicture.banks = s.banks := rfl
@[simp] theorem State.stopPicture_intake (s : State) : s.stopPicture.intake = s.intake := rfl
@[simp] theorem State.stopPicture_thermal (s : State) : s.stopPicture.thermal = s.thermal := rfl
@[simp] theorem State.stopPicture_store (s : State) : s.stopPicture.store = s.store := rfl
@[simp] theorem State.stopPicture_node (s : State) : s.stopPicture.node = s.node := rfl

/-! ### `State.placeOwn` -/

@[simp] theorem State.placeOwn_pending (s : State) (ws : List Word) : (s.placeOwn ws).pending = s.pending := rfl
@[simp] theorem State.placeOwn_out (s : State) (ws : List Word) : (s.placeOwn ws).out = s.out := rfl
@[simp] theorem State.placeOwn_resetPin (s : State) (ws : List Word) : (s.placeOwn ws).resetPin = s.resetPin := rfl
@[simp] theorem State.placeOwn_address (s : State) (ws : List Word) : (s.placeOwn ws).address = s.address := rfl
@[simp] theorem State.placeOwn_commands (s : State) (ws : List Word) : (s.placeOwn ws).commands = s.commands := rfl
@[simp] theorem State.placeOwn_queue (s : State) (ws : List Word) : (s.placeOwn ws).queue = s.queue := rfl
@[simp] theorem State.placeOwn_banks (s : State) (ws : List Word) : (s.placeOwn ws).banks = s.banks := rfl
@[simp] theorem State.placeOwn_intake (s : State) (ws : List Word) : (s.placeOwn ws).intake = s.intake := rfl
@[simp] theorem State.placeOwn_frames (s : State) (ws : List Word) : (s.placeOwn ws).frames = s.frames := rfl
@[simp] theorem State.placeOwn_scan (s : State) (ws : List Word) : (s.placeOwn ws).scan = s.scan := rfl
@[simp] theorem State.placeOwn_thermal (s : State) (ws : List Word) : (s.placeOwn ws).thermal = s.thermal := rfl
@[simp] theorem State.placeOwn_store (s : State) (ws : List Word) : (s.placeOwn ws).store = s.store := rfl
@[simp] theorem State.placeOwn_node (s : State) (ws : List Word) : (s.placeOwn ws).node = s.node := rfl

/-! ### `State.loseLock` -/

@[simp] theorem State.loseLock_pending (s : State) : s.loseLock.pending = s.pending := rfl
@[simp] theorem State.loseLock_out (s : State) : s.loseLock.out = s.out := rfl
@[simp] theorem State.loseLock_resetPin (s : State) : s.loseLock.resetPin = s.resetPin := rfl
@[simp] theorem State.loseLock_address (s : State) : s.loseLock.address = s.address := rfl
@[simp] theorem State.loseLock_commands (s : State) : s.loseLock.commands = s.commands := rfl
@[simp] theorem State.loseLock_queue (s : State) : s.loseLock.queue = s.queue := rfl
@[simp] theorem State.loseLock_banks (s : State) : s.loseLock.banks = s.banks := rfl
@[simp] theorem State.loseLock_intake (s : State) : s.loseLock.intake = s.intake := rfl
@[simp] theorem State.loseLock_frames (s : State) : s.loseLock.frames = s.frames := rfl
@[simp] theorem State.loseLock_scan (s : State) : s.loseLock.scan = s.scan := rfl
@[simp] theorem State.loseLock_thermal (s : State) : s.loseLock.thermal = s.thermal := rfl
@[simp] theorem State.loseLock_store (s : State) : s.loseLock.store = s.store := rfl
@[simp] theorem State.loseLock_node (s : State) : s.loseLock.node = s.node := rfl

/-! ### `State.sendLost` -/

@[simp] theorem State.sendLost_pending (s : State) (r : LossRecord) : (s.sendLost r).pending = s.pending := rfl
@[simp] theorem State.sendLost_out (s : State) (r : LossRecord) : (s.sendLost r).out = s.out := rfl
@[simp] theorem State.sendLost_resetPin (s : State) (r : LossRecord) : (s.sendLost r).resetPin = s.resetPin := rfl
@[simp] theorem State.sendLost_address (s : State) (r : LossRecord) : (s.sendLost r).address = s.address := rfl
@[simp] theorem State.sendLost_commands (s : State) (r : LossRecord) : (s.sendLost r).commands = s.commands := rfl
@[simp] theorem State.sendLost_queue (s : State) (r : LossRecord) : (s.sendLost r).queue = s.queue := rfl
@[simp] theorem State.sendLost_banks (s : State) (r : LossRecord) : (s.sendLost r).banks = s.banks := rfl
@[simp] theorem State.sendLost_intake (s : State) (r : LossRecord) : (s.sendLost r).intake = s.intake := rfl
@[simp] theorem State.sendLost_frames (s : State) (r : LossRecord) : (s.sendLost r).frames = s.frames := rfl
@[simp] theorem State.sendLost_scan (s : State) (r : LossRecord) : (s.sendLost r).scan = s.scan := rfl
@[simp] theorem State.sendLost_thermal (s : State) (r : LossRecord) : (s.sendLost r).thermal = s.thermal := rfl
@[simp] theorem State.sendLost_store (s : State) (r : LossRecord) : (s.sendLost r).store = s.store := rfl
@[simp] theorem State.sendLost_node (s : State) (r : LossRecord) : (s.sendLost r).node = s.node := rfl

/-! ### `State.countDamaged` -/

@[simp] theorem State.countDamaged_pending (s : State) : s.countDamaged.pending = s.pending := rfl
@[simp] theorem State.countDamaged_out (s : State) : s.countDamaged.out = s.out := rfl
@[simp] theorem State.countDamaged_resetPin (s : State) : s.countDamaged.resetPin = s.resetPin := rfl
@[simp] theorem State.countDamaged_address (s : State) : s.countDamaged.address = s.address := rfl
@[simp] theorem State.countDamaged_commands (s : State) : s.countDamaged.commands = s.commands := rfl
@[simp] theorem State.countDamaged_queue (s : State) : s.countDamaged.queue = s.queue := rfl
@[simp] theorem State.countDamaged_banks (s : State) : s.countDamaged.banks = s.banks := rfl
@[simp] theorem State.countDamaged_intake (s : State) : s.countDamaged.intake = s.intake := rfl
@[simp] theorem State.countDamaged_frames (s : State) : s.countDamaged.frames = s.frames := rfl
@[simp] theorem State.countDamaged_scan (s : State) : s.countDamaged.scan = s.scan := rfl
@[simp] theorem State.countDamaged_thermal (s : State) : s.countDamaged.thermal = s.thermal := rfl
@[simp] theorem State.countDamaged_store (s : State) : s.countDamaged.store = s.store := rfl
@[simp] theorem State.countDamaged_node (s : State) : s.countDamaged.node = s.node := rfl

/-! ### `State.countUnknown` -/

@[simp] theorem State.countUnknown_pending (s : State) : s.countUnknown.pending = s.pending := rfl
@[simp] theorem State.countUnknown_out (s : State) : s.countUnknown.out = s.out := rfl
@[simp] theorem State.countUnknown_resetPin (s : State) : s.countUnknown.resetPin = s.resetPin := rfl
@[simp] theorem State.countUnknown_address (s : State) : s.countUnknown.address = s.address := rfl
@[simp] theorem State.countUnknown_commands (s : State) : s.countUnknown.commands = s.commands := rfl
@[simp] theorem State.countUnknown_queue (s : State) : s.countUnknown.queue = s.queue := rfl
@[simp] theorem State.countUnknown_banks (s : State) : s.countUnknown.banks = s.banks := rfl
@[simp] theorem State.countUnknown_intake (s : State) : s.countUnknown.intake = s.intake := rfl
@[simp] theorem State.countUnknown_frames (s : State) : s.countUnknown.frames = s.frames := rfl
@[simp] theorem State.countUnknown_scan (s : State) : s.countUnknown.scan = s.scan := rfl
@[simp] theorem State.countUnknown_thermal (s : State) : s.countUnknown.thermal = s.thermal := rfl
@[simp] theorem State.countUnknown_store (s : State) : s.countUnknown.store = s.store := rfl
@[simp] theorem State.countUnknown_node (s : State) : s.countUnknown.node = s.node := rfl

/-! ### `State.sendAll` -/

@[simp] theorem State.sendAll_pending (s : State) : s.sendAll.pending = s.pending := rfl
@[simp] theorem State.sendAll_resetPin (s : State) : s.sendAll.resetPin = s.resetPin := rfl
@[simp] theorem State.sendAll_address (s : State) : s.sendAll.address = s.address := rfl
@[simp] theorem State.sendAll_commands (s : State) : s.sendAll.commands = s.commands := rfl
@[simp] theorem State.sendAll_queue (s : State) : s.sendAll.queue = s.queue := rfl
@[simp] theorem State.sendAll_banks (s : State) : s.sendAll.banks = s.banks := rfl
@[simp] theorem State.sendAll_intake (s : State) : s.sendAll.intake = s.intake := rfl
@[simp] theorem State.sendAll_frames (s : State) : s.sendAll.frames = s.frames := rfl
@[simp] theorem State.sendAll_scan (s : State) : s.sendAll.scan = s.scan := rfl
@[simp] theorem State.sendAll_thermal (s : State) : s.sendAll.thermal = s.thermal := rfl
@[simp] theorem State.sendAll_store (s : State) : s.sendAll.store = s.store := rfl
@[simp] theorem State.sendAll_node (s : State) : s.sendAll.node = s.node := rfl

/-! ### `State.answerResetNode` -/

@[simp] theorem State.answerResetNode_pending (s : State) : s.answerResetNode.pending = s.pending := rfl
@[simp] theorem State.answerResetNode_out (s : State) : s.answerResetNode.out = s.out := rfl
@[simp] theorem State.answerResetNode_resetPin (s : State) : s.answerResetNode.resetPin = s.resetPin := rfl
@[simp] theorem State.answerResetNode_address (s : State) : s.answerResetNode.address = s.address := rfl
@[simp] theorem State.answerResetNode_commands (s : State) : s.answerResetNode.commands = s.commands := rfl
@[simp] theorem State.answerResetNode_queue (s : State) : s.answerResetNode.queue = s.queue := rfl
@[simp] theorem State.answerResetNode_banks (s : State) : s.answerResetNode.banks = s.banks := rfl
@[simp] theorem State.answerResetNode_intake (s : State) : s.answerResetNode.intake = s.intake := rfl
@[simp] theorem State.answerResetNode_frames (s : State) : s.answerResetNode.frames = s.frames := rfl
@[simp] theorem State.answerResetNode_scan (s : State) : s.answerResetNode.scan = s.scan := rfl
@[simp] theorem State.answerResetNode_thermal (s : State) : s.answerResetNode.thermal = s.thermal := rfl
@[simp] theorem State.answerResetNode_store (s : State) : s.answerResetNode.store = s.store := rfl
@[simp] theorem State.answerResetNode_node (s : State) : s.answerResetNode.node = s.node := rfl

/-! ### `State.sentOn` -/

@[simp] theorem State.sentOn_pending (s : State) (ws : List Word) : (s.sentOn ws).pending = s.pending := rfl
@[simp] theorem State.sentOn_out (s : State) (ws : List Word) : (s.sentOn ws).out = s.out := rfl
@[simp] theorem State.sentOn_resetPin (s : State) (ws : List Word) : (s.sentOn ws).resetPin = s.resetPin := rfl
@[simp] theorem State.sentOn_address (s : State) (ws : List Word) : (s.sentOn ws).address = s.address := rfl
@[simp] theorem State.sentOn_commands (s : State) (ws : List Word) : (s.sentOn ws).commands = s.commands := rfl
@[simp] theorem State.sentOn_queue (s : State) (ws : List Word) : (s.sentOn ws).queue = s.queue := rfl
@[simp] theorem State.sentOn_banks (s : State) (ws : List Word) : (s.sentOn ws).banks = s.banks := rfl
@[simp] theorem State.sentOn_intake (s : State) (ws : List Word) : (s.sentOn ws).intake = s.intake := rfl
@[simp] theorem State.sentOn_frames (s : State) (ws : List Word) : (s.sentOn ws).frames = s.frames := rfl
@[simp] theorem State.sentOn_scan (s : State) (ws : List Word) : (s.sentOn ws).scan = s.scan := rfl
@[simp] theorem State.sentOn_thermal (s : State) (ws : List Word) : (s.sentOn ws).thermal = s.thermal := rfl
@[simp] theorem State.sentOn_store (s : State) (ws : List Word) : (s.sentOn ws).store = s.store := rfl
@[simp] theorem State.sentOn_node (s : State) (ws : List Word) : (s.sentOn ws).node = s.node := rfl

/-! ### What the updates write -/

@[simp] theorem State.raise_queue (s : State) (k : NoticeKind) (d : Option Word) :
    (s.raise k d).queue = s.queue.raise s.address k d := rfl
@[simp] theorem State.enqueue_ring (s : State) (e : SendEntry) :
    (s.enqueue e).ring = { s.ring with sendQueue := s.ring.sendQueue ++ [e] } := rfl
@[simp] theorem State.forward_ring (s : State) (ws : List Word) :
    (s.forward ws).ring = { s.ring with sendQueue := s.ring.sendQueue ++ [⟨ws, false, false⟩] } := rfl
@[simp] theorem State.emit_out (s : State) (o : Output) : (s.emit o).out = s.out ++ [o] := rfl
@[simp] theorem State.forceDark_scan (s : State) : s.forceDark.scan = { s.scan with source := .dark } := rfl
@[simp] theorem State.startLive_frames (s : State) :
    s.startLive.frames = { s.frames with presentation := .live, holdTimer := some s.banks.live.holdTime } := rfl
@[simp] theorem State.setPlaced_thermal (s : State) (b : Nat) :
    (s.setPlaced b).thermal = { s.thermal with pending := if b = s.thermal.applied then none else some b } := rfl
@[simp] theorem State.sentOn_ring (s : State) (ws : List Word) :
    (s.sentOn ws).ring = { s.ring with arriving := [], sendQueue := s.ring.sendQueue ++ [⟨ws, false, false⟩] } := rfl
@[simp] theorem State.placeOwn_ring (s : State) (ws : List Word) : (s.placeOwn ws).ring = s.ring.placeOwn ws := rfl
@[simp] theorem State.sendAll_sendQueue (s : State) : s.sendAll.ring.sendQueue = [] := rfl
@[simp] theorem State.sendAll_held (s : State) : s.sendAll.ring.held = s.ring.held := rfl
@[simp] theorem State.sendAll_out (s : State) :
    s.sendAll.out = s.out ++ s.ring.sendQueue.map fun e => .packet e.words := rfl
@[simp] theorem State.reserve_queue (s : State) (w : Word) :
    (s.reserve w).queue = s.queue.append (.reservation w s.address.position s.address.logicalId) := rfl
@[simp] theorem State.takePixels_frames (s : State) (n : Word) (c : List Word) (ps : List TilePixel) :
    (s.takePixels n c ps).frames =
      s.frames.mapBuffers (refill (writePixels s.banks.live s.activeProfile c ps) (some n)) := rfl

end Sys2Proof.Machine
end

