-- ==== Sys2Proof/Laws/Frame.lean ====
section
/-! SUPPORT. Which fields of the state the operations of the blocks leave alone: the frame of each, one lemma a field. -/

namespace Sys2Proof.Machine

/-! ### `State.applyPending` -/

@[simp] theorem State.applyPending_pending (s : State) : s.applyPending.pending = s.pending := by
  unfold State.applyPending; split <;> rfl
@[simp] theorem State.applyPending_out (s : State) : s.applyPending.out = s.out := by
  unfold State.applyPending; split <;> rfl
@[simp] theorem State.applyPending_resetPin (s : State) : s.applyPending.resetPin = s.resetPin := by
  unfold State.applyPending; split <;> rfl
@[simp] theorem State.applyPending_ring (s : State) : s.applyPending.ring = s.ring := by
  unfold State.applyPending; split <;> rfl
@[simp] theorem State.applyPending_address (s : State) : s.applyPending.address = s.address := by
  unfold State.applyPending; split <;> rfl
@[simp] theorem State.applyPending_commands (s : State) : s.applyPending.commands = s.commands := by
  unfold State.applyPending; split <;> rfl
@[simp] theorem State.applyPending_banks (s : State) : s.applyPending.banks = s.banks := by
  unfold State.applyPending; split <;> rfl
@[simp] theorem State.applyPending_intake (s : State) : s.applyPending.intake = s.intake := by
  unfold State.applyPending; split <;> rfl
@[simp] theorem State.applyPending_frames (s : State) : s.applyPending.frames = s.frames := by
  unfold State.applyPending; split <;> rfl
@[simp] theorem State.applyPending_scan (s : State) : s.applyPending.scan = s.scan := by
  unfold State.applyPending; split <;> rfl
@[simp] theorem State.applyPending_store (s : State) : s.applyPending.store = s.store := by
  unfold State.applyPending; split <;> rfl
@[simp] theorem State.applyPending_node (s : State) : s.applyPending.node = s.node := by
  unfold State.applyPending; split <;> rfl

/-! ### `State.applyAtMeasurement` -/

@[simp] theorem State.applyAtMeasurement_pending (s : State) : s.applyAtMeasurement.pending = s.pending := by
  unfold State.applyAtMeasurement; split <;> simp
@[simp] theorem State.applyAtMeasurement_out (s : State) : s.applyAtMeasurement.out = s.out := by
  unfold State.applyAtMeasurement; split <;> simp
@[simp] theorem State.applyAtMeasurement_resetPin (s : State) : s.applyAtMeasurement.resetPin = s.resetPin := by
  unfold State.applyAtMeasurement; split <;> simp
@[simp] theorem State.applyAtMeasurement_ring (s : State) : s.applyAtMeasurement.ring = s.ring := by
  unfold State.applyAtMeasurement; split <;> simp
@[simp] theorem State.applyAtMeasurement_address (s : State) : s.applyAtMeasurement.address = s.address := by
  unfold State.applyAtMeasurement; split <;> simp
@[simp] theorem State.applyAtMeasurement_commands (s : State) : s.applyAtMeasurement.commands = s.commands := by
  unfold State.applyAtMeasurement; split <;> simp
@[simp] theorem State.applyAtMeasurement_banks (s : State) : s.applyAtMeasurement.banks = s.banks := by
  unfold State.applyAtMeasurement; split <;> simp
@[simp] theorem State.applyAtMeasurement_intake (s : State) : s.applyAtMeasurement.intake = s.intake := by
  unfold State.applyAtMeasurement; split <;> simp
@[simp] theorem State.applyAtMeasurement_frames (s : State) : s.applyAtMeasurement.frames = s.frames := by
  unfold State.applyAtMeasurement; split <;> simp
@[simp] theorem State.applyAtMeasurement_scan (s : State) : s.applyAtMeasurement.scan = s.scan := by
  unfold State.applyAtMeasurement; split <;> simp
@[simp] theorem State.applyAtMeasurement_store (s : State) : s.applyAtMeasurement.store = s.store := by
  unfold State.applyAtMeasurement; split <;> simp
@[simp] theorem State.applyAtMeasurement_node (s : State) : s.applyAtMeasurement.node = s.node := by
  unfold State.applyAtMeasurement; split <;> simp

/-! ### `State.thermalAtCommit` -/

@[simp] theorem State.thermalAtCommit_pending (s : State) (d : BitVec 6) : (s.thermalAtCommit d).pending = s.pending := by
  unfold State.thermalAtCommit; split <;> [(dsimp only; split <;> rfl); rfl]
@[simp] theorem State.thermalAtCommit_out (s : State) (d : BitVec 6) : (s.thermalAtCommit d).out = s.out := by
  unfold State.thermalAtCommit; split <;> [(dsimp only; split <;> rfl); rfl]
@[simp] theorem State.thermalAtCommit_resetPin (s : State) (d : BitVec 6) : (s.thermalAtCommit d).resetPin = s.resetPin := by
  unfold State.thermalAtCommit; split <;> [(dsimp only; split <;> rfl); rfl]
@[simp] theorem State.thermalAtCommit_ring (s : State) (d : BitVec 6) : (s.thermalAtCommit d).ring = s.ring := by
  unfold State.thermalAtCommit; split <;> [(dsimp only; split <;> rfl); rfl]
@[simp] theorem State.thermalAtCommit_address (s : State) (d : BitVec 6) : (s.thermalAtCommit d).address = s.address := by
  unfold State.thermalAtCommit; split <;> [(dsimp only; split <;> rfl); rfl]
@[simp] theorem State.thermalAtCommit_commands (s : State) (d : BitVec 6) : (s.thermalAtCommit d).commands = s.commands := by
  unfold State.thermalAtCommit; split <;> [(dsimp only; split <;> rfl); rfl]
@[simp] theorem State.thermalAtCommit_banks (s : State) (d : BitVec 6) : (s.thermalAtCommit d).banks = s.banks := by
  unfold State.thermalAtCommit; split <;> [(dsimp only; split <;> rfl); rfl]
@[simp] theorem State.thermalAtCommit_intake (s : State) (d : BitVec 6) : (s.thermalAtCommit d).intake = s.intake := by
  unfold State.thermalAtCommit; split <;> [(dsimp only; split <;> rfl); rfl]
@[simp] theorem State.thermalAtCommit_frames (s : State) (d : BitVec 6) : (s.thermalAtCommit d).frames = s.frames := by
  unfold State.thermalAtCommit; split <;> [(dsimp only; split <;> rfl); rfl]
@[simp] theorem State.thermalAtCommit_scan (s : State) (d : BitVec 6) : (s.thermalAtCommit d).scan = s.scan := by
  unfold State.thermalAtCommit; split <;> [(dsimp only; split <;> rfl); rfl]
@[simp] theorem State.thermalAtCommit_store (s : State) (d : BitVec 6) : (s.thermalAtCommit d).store = s.store := by
  unfold State.thermalAtCommit; split <;> [(dsimp only; split <;> rfl); rfl]
@[simp] theorem State.thermalAtCommit_node (s : State) (d : BitVec 6) : (s.thermalAtCommit d).node = s.node := by
  unfold State.thermalAtCommit; split <;> [(dsimp only; split <;> rfl); rfl]

/-! ### `State.applyCommit` -/

@[simp] theorem State.applyCommit_pending (s : State) : s.applyCommit.pending = s.pending := by
  simp [State.applyCommit]
@[simp] theorem State.applyCommit_out (s : State) : s.applyCommit.out = s.out := by
  simp [State.applyCommit]
@[simp] theorem State.applyCommit_resetPin (s : State) : s.applyCommit.resetPin = s.resetPin := by
  simp [State.applyCommit]
@[simp] theorem State.applyCommit_ring (s : State) : s.applyCommit.ring = s.ring := by
  simp [State.applyCommit]
@[simp] theorem State.applyCommit_address (s : State) : s.applyCommit.address = s.address := by
  simp [State.applyCommit]
@[simp] theorem State.applyCommit_commands (s : State) : s.applyCommit.commands = s.commands := by
  simp [State.applyCommit]
@[simp] theorem State.applyCommit_intake (s : State) : s.applyCommit.intake = s.intake := by
  simp [State.applyCommit]
@[simp] theorem State.applyCommit_frames (s : State) : s.applyCommit.frames = s.frames := by
  simp [State.applyCommit]
@[simp] theorem State.applyCommit_scan (s : State) : s.applyCommit.scan = s.scan := by
  simp [State.applyCommit]
@[simp] theorem State.applyCommit_store (s : State) : s.applyCommit.store = s.store := by
  simp [State.applyCommit]
@[simp] theorem State.applyCommit_node (s : State) : s.applyCommit.node = s.node := by
  simp [State.applyCommit]

/-! ### `State.commitAtShow` -/

@[simp] theorem State.commitAtShow_pending (s : State) (k : Word) : (s.commitAtShow k).pending = s.pending := by
  unfold State.commitAtShow; repeat' split
  all_goals simp
@[simp] theorem State.commitAtShow_out (s : State) (k : Word) : (s.commitAtShow k).out = s.out := by
  unfold State.commitAtShow; repeat' split
  all_goals simp
@[simp] theorem State.commitAtShow_resetPin (s : State) (k : Word) : (s.commitAtShow k).resetPin = s.resetPin := by
  unfold State.commitAtShow; repeat' split
  all_goals simp
@[simp] theorem State.commitAtShow_ring (s : State) (k : Word) : (s.commitAtShow k).ring = s.ring := by
  unfold State.commitAtShow; repeat' split
  all_goals simp
@[simp] theorem State.commitAtShow_address (s : State) (k : Word) : (s.commitAtShow k).address = s.address := by
  unfold State.commitAtShow; repeat' split
  all_goals simp
@[simp] theorem State.commitAtShow_commands (s : State) (k : Word) : (s.commitAtShow k).commands = s.commands := by
  unfold State.commitAtShow; repeat' split
  all_goals simp
@[simp] theorem State.commitAtShow_intake (s : State) (k : Word) : (s.commitAtShow k).intake = s.intake := by
  unfold State.commitAtShow; repeat' split
  all_goals simp
@[simp] theorem State.commitAtShow_frames (s : State) (k : Word) : (s.commitAtShow k).frames = s.frames := by
  unfold State.commitAtShow; repeat' split
  all_goals simp
@[simp] theorem State.commitAtShow_scan (s : State) (k : Word) : (s.commitAtShow k).scan = s.scan := by
  unfold State.commitAtShow; repeat' split
  all_goals simp
@[simp] theorem State.commitAtShow_store (s : State) (k : Word) : (s.commitAtShow k).store = s.store := by
  unfold State.commitAtShow; repeat' split
  all_goals simp
@[simp] theorem State.commitAtShow_node (s : State) (k : Word) : (s.commitAtShow k).node = s.node := by
  unfold State.commitAtShow; repeat' split
  all_goals simp

/-! ### `State.evaluateCutoff` -/

@[simp] theorem State.evaluateCutoff_pending (s : State) (t : Int) : (s.evaluateCutoff t).pending = s.pending := by
  unfold State.evaluateCutoff; repeat' split
  all_goals simp
@[simp] theorem State.evaluateCutoff_out (s : State) (t : Int) : (s.evaluateCutoff t).out = s.out := by
  unfold State.evaluateCutoff; repeat' split
  all_goals simp
@[simp] theorem State.evaluateCutoff_resetPin (s : State) (t : Int) : (s.evaluateCutoff t).resetPin = s.resetPin := by
  unfold State.evaluateCutoff; repeat' split
  all_goals simp
@[simp] theorem State.evaluateCutoff_ring (s : State) (t : Int) : (s.evaluateCutoff t).ring = s.ring := by
  unfold State.evaluateCutoff; repeat' split
  all_goals simp
@[simp] theorem State.evaluateCutoff_address (s : State) (t : Int) : (s.evaluateCutoff t).address = s.address := by
  unfold State.evaluateCutoff; repeat' split
  all_goals simp
@[simp] theorem State.evaluateCutoff_commands (s : State) (t : Int) : (s.evaluateCutoff t).commands = s.commands := by
  unfold State.evaluateCutoff; repeat' split
  all_goals simp
@[simp] theorem State.evaluateCutoff_banks (s : State) (t : Int) : (s.evaluateCutoff t).banks = s.banks := by
  unfold State.evaluateCutoff; repeat' split
  all_goals simp
@[simp] theorem State.evaluateCutoff_intake (s : State) (t : Int) : (s.evaluateCutoff t).intake = s.intake := by
  unfold State.evaluateCutoff; repeat' split
  all_goals simp
@[simp] theorem State.evaluateCutoff_frames (s : State) (t : Int) : (s.evaluateCutoff t).frames = s.frames := by
  unfold State.evaluateCutoff; repeat' split
  all_goals simp
@[simp] theorem State.evaluateCutoff_store (s : State) (t : Int) : (s.evaluateCutoff t).store = s.store := by
  unfold State.evaluateCutoff; repeat' split
  all_goals simp
@[simp] theorem State.evaluateCutoff_node (s : State) (t : Int) : (s.evaluateCutoff t).node = s.node := by
  unfold State.evaluateCutoff; repeat' split
  all_goals simp

/-! ### `State.goodReading` -/

@[simp] theorem State.goodReading_pending (s : State) (t : Int) : (s.goodReading t).pending = s.pending := by
  simp [State.goodReading]
@[simp] theorem State.goodReading_out (s : State) (t : Int) : (s.goodReading t).out = s.out := by
  simp [State.goodReading]
@[simp] theorem State.goodReading_resetPin (s : State) (t : Int) : (s.goodReading t).resetPin = s.resetPin := by
  simp [State.goodReading]
@[simp] theorem State.goodReading_ring (s : State) (t : Int) : (s.goodReading t).ring = s.ring := by
  simp [State.goodReading]
@[simp] theorem State.goodReading_address (s : State) (t : Int) : (s.goodReading t).address = s.address := by
  simp [State.goodReading]
@[simp] theorem State.goodReading_commands (s : State) (t : Int) : (s.goodReading t).commands = s.commands := by
  simp [State.goodReading]
@[simp] theorem State.goodReading_banks (s : State) (t : Int) : (s.goodReading t).banks = s.banks := by
  simp [State.goodReading]
@[simp] theorem State.goodReading_intake (s : State) (t : Int) : (s.goodReading t).intake = s.intake := by
  simp [State.goodReading]
@[simp] theorem State.goodReading_frames (s : State) (t : Int) : (s.goodReading t).frames = s.frames := by
  simp [State.goodReading]
@[simp] theorem State.goodReading_store (s : State) (t : Int) : (s.goodReading t).store = s.store := by
  simp [State.goodReading]
@[simp] theorem State.goodReading_node (s : State) (t : Int) : (s.goodReading t).node = s.node := by
  simp [State.goodReading]

/-! ### `State.measurementFault` -/

@[simp] theorem State.measurementFault_pending (s : State) (c : Word) : (s.measurementFault c).pending = s.pending := by
  simp [State.measurementFault]
@[simp] theorem State.measurementFault_out (s : State) (c : Word) : (s.measurementFault c).out = s.out := by
  simp [State.measurementFault]
@[simp] theorem State.measurementFault_resetPin (s : State) (c : Word) : (s.measurementFault c).resetPin = s.resetPin := by
  simp [State.measurementFault]
@[simp] theorem State.measurementFault_ring (s : State) (c : Word) : (s.measurementFault c).ring = s.ring := by
  simp [State.measurementFault]
@[simp] theorem State.measurementFault_address (s : State) (c : Word) : (s.measurementFault c).address = s.address := by
  simp [State.measurementFault]
@[simp] theorem State.measurementFault_commands (s : State) (c : Word) : (s.measurementFault c).commands = s.commands := by
  simp [State.measurementFault]
@[simp] theorem State.measurementFault_banks (s : State) (c : Word) : (s.measurementFault c).banks = s.banks := by
  simp [State.measurementFault]
@[simp] theorem State.measurementFault_intake (s : State) (c : Word) : (s.measurementFault c).intake = s.intake := by
  simp [State.measurementFault]
@[simp] theorem State.measurementFault_frames (s : State) (c : Word) : (s.measurementFault c).frames = s.frames := by
  simp [State.measurementFault]
@[simp] theorem State.measurementFault_scan (s : State) (c : Word) : (s.measurementFault c).scan = s.scan := by
  simp [State.measurementFault]
@[simp] theorem State.measurementFault_store (s : State) (c : Word) : (s.measurementFault c).store = s.store := by
  simp [State.measurementFault]
@[simp] theorem State.measurementFault_node (s : State) (c : Word) : (s.measurementFault c).node = s.node := by
  simp [State.measurementFault]

/-! ### `State.sensorAnswer` -/

@[simp] theorem State.sensorAnswer_pending (s : State) (w : Word) : (s.sensorAnswer w).pending = s.pending := by
  unfold State.sensorAnswer; repeat' split
  all_goals simp
@[simp] theorem State.sensorAnswer_out (s : State) (w : Word) : (s.sensorAnswer w).out = s.out := by
  unfold State.sensorAnswer; repeat' split
  all_goals simp
@[simp] theorem State.sensorAnswer_resetPin (s : State) (w : Word) : (s.sensorAnswer w).resetPin = s.resetPin := by
  unfold State.sensorAnswer; repeat' split
  all_goals simp
@[simp] theorem State.sensorAnswer_ring (s : State) (w : Word) : (s.sensorAnswer w).ring = s.ring := by
  unfold State.sensorAnswer; repeat' split
  all_goals simp
@[simp] theorem State.sensorAnswer_address (s : State) (w : Word) : (s.sensorAnswer w).address = s.address := by
  unfold State.sensorAnswer; repeat' split
  all_goals simp
@[simp] theorem State.sensorAnswer_commands (s : State) (w : Word) : (s.sensorAnswer w).commands = s.commands := by
  unfold State.sensorAnswer; repeat' split
  all_goals simp
@[simp] theorem State.sensorAnswer_banks (s : State) (w : Word) : (s.sensorAnswer w).banks = s.banks := by
  unfold State.sensorAnswer; repeat' split
  all_goals simp
@[simp] theorem State.sensorAnswer_intake (s : State) (w : Word) : (s.sensorAnswer w).intake = s.intake := by
  unfold State.sensorAnswer; repeat' split
  all_goals simp
@[simp] theorem State.sensorAnswer_frames (s : State) (w : Word) : (s.sensorAnswer w).frames = s.frames := by
  unfold State.sensorAnswer; repeat' split
  all_goals simp
@[simp] theorem State.sensorAnswer_store (s : State) (w : Word) : (s.sensorAnswer w).store = s.store := by
  unfold State.sensorAnswer; repeat' split
  all_goals simp
@[simp] theorem State.sensorAnswer_node (s : State) (w : Word) : (s.sensorAnswer w).node = s.node := by
  unfold State.sensorAnswer; repeat' split
  all_goals simp

/-! ### `State.answerLimitExpiry` -/

@[simp] theorem State.answerLimitExpiry_pending (s : State) : s.answerLimitExpiry.pending = s.pending := by
  unfold State.answerLimitExpiry; split <;> simp
@[simp] theorem State.answerLimitExpiry_out (s : State) : s.answerLimitExpiry.out = s.out := by
  unfold State.answerLimitExpiry; split <;> simp
@[simp] theorem State.answerLimitExpiry_resetPin (s : State) : s.answerLimitExpiry.resetPin = s.resetPin := by
  unfold State.answerLimitExpiry; split <;> simp
@[simp] theorem State.answerLimitExpiry_ring (s : State) : s.answerLimitExpiry.ring = s.ring := by
  unfold State.answerLimitExpiry; split <;> simp
@[simp] theorem State.answerLimitExpiry_address (s : State) : s.answerLimitExpiry.address = s.address := by
  unfold State.answerLimitExpiry; split <;> simp
@[simp] theorem State.answerLimitExpiry_commands (s : State) : s.answerLimitExpiry.commands = s.commands := by
  unfold State.answerLimitExpiry; split <;> simp
@[simp] theorem State.answerLimitExpiry_banks (s : State) : s.answerLimitExpiry.banks = s.banks := by
  unfold State.answerLimitExpiry; split <;> simp
@[simp] theorem State.answerLimitExpiry_intake (s : State) : s.answerLimitExpiry.intake = s.intake := by
  unfold State.answerLimitExpiry; split <;> simp
@[simp] theorem State.answerLimitExpiry_frames (s : State) : s.answerLimitExpiry.frames = s.frames := by
  unfold State.answerLimitExpiry; split <;> simp
@[simp] theorem State.answerLimitExpiry_scan (s : State) : s.answerLimitExpiry.scan = s.scan := by
  unfold State.answerLimitExpiry; split <;> simp
@[simp] theorem State.answerLimitExpiry_store (s : State) : s.answerLimitExpiry.store = s.store := by
  unfold State.answerLimitExpiry; split <;> simp
@[simp] theorem State.answerLimitExpiry_node (s : State) : s.answerLimitExpiry.node = s.node := by
  unfold State.answerLimitExpiry; split <;> simp

/-! ### `State.sampleTimerExpiry` -/

@[simp] theorem State.sampleTimerExpiry_pending (s : State) : s.sampleTimerExpiry.pending = s.pending := by
  unfold State.sampleTimerExpiry; repeat' split
  all_goals simp
@[simp] theorem State.sampleTimerExpiry_resetPin (s : State) : s.sampleTimerExpiry.resetPin = s.resetPin := by
  unfold State.sampleTimerExpiry; repeat' split
  all_goals simp
@[simp] theorem State.sampleTimerExpiry_ring (s : State) : s.sampleTimerExpiry.ring = s.ring := by
  unfold State.sampleTimerExpiry; repeat' split
  all_goals simp
@[simp] theorem State.sampleTimerExpiry_address (s : State) : s.sampleTimerExpiry.address = s.address := by
  unfold State.sampleTimerExpiry; repeat' split
  all_goals simp
@[simp] theorem State.sampleTimerExpiry_commands (s : State) : s.sampleTimerExpiry.commands = s.commands := by
  unfold State.sampleTimerExpiry; repeat' split
  all_goals simp
@[simp] theorem State.sampleTimerExpiry_queue (s : State) : s.sampleTimerExpiry.queue = s.queue := by
  unfold State.sampleTimerExpiry; repeat' split
  all_goals simp
@[simp] theorem State.sampleTimerExpiry_banks (s : State) : s.sampleTimerExpiry.banks = s.banks := by
  unfold State.sampleTimerExpiry; repeat' split
  all_goals simp
@[simp] theorem State.sampleTimerExpiry_intake (s : State) : s.sampleTimerExpiry.intake = s.intake := by
  unfold State.sampleTimerExpiry; repeat' split
  all_goals simp
@[simp] theorem State.sampleTimerExpiry_frames (s : State) : s.sampleTimerExpiry.frames = s.frames := by
  unfold State.sampleTimerExpiry; repeat' split
  all_goals simp
@[simp] theorem State.sampleTimerExpiry_scan (s : State) : s.sampleTimerExpiry.scan = s.scan := by
  unfold State.sampleTimerExpiry; repeat' split
  all_goals simp
@[simp] theorem State.sampleTimerExpiry_store (s : State) : s.sampleTimerExpiry.store = s.store := by
  unfold State.sampleTimerExpiry; repeat' split
  all_goals simp
@[simp] theorem State.sampleTimerExpiry_node (s : State) : s.sampleTimerExpiry.node = s.node := by
  unfold State.sampleTimerExpiry; repeat' split
  all_goals simp

/-! ### `State.skipPending` -/

@[simp] theorem State.skipPending_pending (s : State) : s.skipPending.pending = s.pending := by
  unfold State.skipPending; split <;> simp
@[simp] theorem State.skipPending_out (s : State) : s.skipPending.out = s.out := by
  unfold State.skipPending; split <;> simp
@[simp] theorem State.skipPending_resetPin (s : State) : s.skipPending.resetPin = s.resetPin := by
  unfold State.skipPending; split <;> simp
@[simp] theorem State.skipPending_ring (s : State) : s.skipPending.ring = s.ring := by
  unfold State.skipPending; split <;> simp
@[simp] theorem State.skipPending_address (s : State) : s.skipPending.address = s.address := by
  unfold State.skipPending; split <;> simp
@[simp] theorem State.skipPending_commands (s : State) : s.skipPending.commands = s.commands := by
  unfold State.skipPending; split <;> simp
@[simp] theorem State.skipPending_banks (s : State) : s.skipPending.banks = s.banks := by
  unfold State.skipPending; split <;> simp
@[simp] theorem State.skipPending_intake (s : State) : s.skipPending.intake = s.intake := by
  unfold State.skipPending; split <;> simp
@[simp] theorem State.skipPending_scan (s : State) : s.skipPending.scan = s.scan := by
  unfold State.skipPending; split <;> simp
@[simp] theorem State.skipPending_thermal (s : State) : s.skipPending.thermal = s.thermal := by
  unfold State.skipPending; split <;> simp
@[simp] theorem State.skipPending_store (s : State) : s.skipPending.store = s.store := by
  unfold State.skipPending; split <;> simp
@[simp] theorem State.skipPending_node (s : State) : s.skipPending.node = s.node := by
  unfold State.skipPending; split <;> simp

/-! ### `State.promote` -/

@[simp] theorem State.promote_pending (s : State) (k : Word) : (s.promote k).pending = s.pending := by
  simp [State.promote]
@[simp] theorem State.promote_out (s : State) (k : Word) : (s.promote k).out = s.out := by
  simp [State.promote]
@[simp] theorem State.promote_resetPin (s : State) (k : Word) : (s.promote k).resetPin = s.resetPin := by
  simp [State.promote]
@[simp] theorem State.promote_ring (s : State) (k : Word) : (s.promote k).ring = s.ring := by
  simp [State.promote]
@[simp] theorem State.promote_address (s : State) (k : Word) : (s.promote k).address = s.address := by
  simp [State.promote]
@[simp] theorem State.promote_commands (s : State) (k : Word) : (s.promote k).commands = s.commands := by
  simp [State.promote]
@[simp] theorem State.promote_banks (s : State) (k : Word) : (s.promote k).banks = s.banks := by
  simp [State.promote]
@[simp] theorem State.promote_intake (s : State) (k : Word) : (s.promote k).intake = s.intake := by
  simp [State.promote]
@[simp] theorem State.promote_scan (s : State) (k : Word) : (s.promote k).scan = s.scan := by
  simp [State.promote]
@[simp] theorem State.promote_thermal (s : State) (k : Word) : (s.promote k).thermal = s.thermal := by
  simp [State.promote]
@[simp] theorem State.promote_store (s : State) (k : Word) : (s.promote k).store = s.store := by
  simp [State.promote]
@[simp] theorem State.promote_node (s : State) (k : Word) : (s.promote k).node = s.node := by
  simp [State.promote]

/-! ### `State.framesAtShow` -/

@[simp] theorem State.framesAtShow_pending (s : State) (k : Word) : (s.framesAtShow k).pending = s.pending := by
  unfold State.framesAtShow; split
  all_goals simp [State.framesAtShow.showPicture]
  all_goals split <;> simp
@[simp] theorem State.framesAtShow_out (s : State) (k : Word) : (s.framesAtShow k).out = s.out := by
  unfold State.framesAtShow; split
  all_goals simp [State.framesAtShow.showPicture]
  all_goals split <;> simp
@[simp] theorem State.framesAtShow_resetPin (s : State) (k : Word) : (s.framesAtShow k).resetPin = s.resetPin := by
  unfold State.framesAtShow; split
  all_goals simp [State.framesAtShow.showPicture]
  all_goals split <;> simp
@[simp] theorem State.framesAtShow_ring (s : State) (k : Word) : (s.framesAtShow k).ring = s.ring := by
  unfold State.framesAtShow; split
  all_goals simp [State.framesAtShow.showPicture]
  all_goals split <;> simp
@[simp] theorem State.framesAtShow_address (s : State) (k : Word) : (s.framesAtShow k).address = s.address := by
  unfold State.framesAtShow; split
  all_goals simp [State.framesAtShow.showPicture]
  all_goals split <;> simp
@[simp] theorem State.framesAtShow_commands (s : State) (k : Word) : (s.framesAtShow k).commands = s.commands := by
  unfold State.framesAtShow; split
  all_goals simp [State.framesAtShow.showPicture]
  all_goals split <;> simp
@[simp] theorem State.framesAtShow_banks (s : State) (k : Word) : (s.framesAtShow k).banks = s.banks := by
  unfold State.framesAtShow; split
  all_goals simp [State.framesAtShow.showPicture]
  all_goals split <;> simp
@[simp] theorem State.framesAtShow_intake (s : State) (k : Word) : (s.framesAtShow k).intake = s.intake := by
  unfold State.framesAtShow; split
  all_goals simp [State.framesAtShow.showPicture]
  all_goals split <;> simp
@[simp] theorem State.framesAtShow_scan (s : State) (k : Word) : (s.framesAtShow k).scan = s.scan := by
  unfold State.framesAtShow; split
  all_goals simp [State.framesAtShow.showPicture]
  all_goals split <;> simp
@[simp] theorem State.framesAtShow_thermal (s : State) (k : Word) : (s.framesAtShow k).thermal = s.thermal := by
  unfold State.framesAtShow; split
  all_goals simp [State.framesAtShow.showPicture]
  all_goals split <;> simp
@[simp] theorem State.framesAtShow_store (s : State) (k : Word) : (s.framesAtShow k).store = s.store := by
  unfold State.framesAtShow; split
  all_goals simp [State.framesAtShow.showPicture]
  all_goals split <;> simp
@[simp] theorem State.framesAtShow_node (s : State) (k : Word) : (s.framesAtShow k).node = s.node := by
  unfold State.framesAtShow; split
  all_goals simp [State.framesAtShow.showPicture]
  all_goals split <;> simp

/-! ### `State.takeShow` -/

@[simp] theorem State.takeShow_pending (s : State) (k : Word) : (s.takeShow k).pending = s.pending := by
  unfold State.takeShow; split <;> simp
@[simp] theorem State.takeShow_out (s : State) (k : Word) : (s.takeShow k).out = s.out := by
  unfold State.takeShow; split <;> simp
@[simp] theorem State.takeShow_resetPin (s : State) (k : Word) : (s.takeShow k).resetPin = s.resetPin := by
  unfold State.takeShow; split <;> simp
@[simp] theorem State.takeShow_ring (s : State) (k : Word) : (s.takeShow k).ring = s.ring := by
  unfold State.takeShow; split <;> simp
@[simp] theorem State.takeShow_address (s : State) (k : Word) : (s.takeShow k).address = s.address := by
  unfold State.takeShow; split <;> simp
@[simp] theorem State.takeShow_commands (s : State) (k : Word) : (s.takeShow k).commands = s.commands := by
  unfold State.takeShow; split <;> simp
@[simp] theorem State.takeShow_intake (s : State) (k : Word) : (s.takeShow k).intake = s.intake := by
  unfold State.takeShow; split <;> simp
@[simp] theorem State.takeShow_scan (s : State) (k : Word) : (s.takeShow k).scan = s.scan := by
  unfold State.takeShow; split <;> simp
@[simp] theorem State.takeShow_store (s : State) (k : Word) : (s.takeShow k).store = s.store := by
  unfold State.takeShow; split <;> simp
@[simp] theorem State.takeShow_node (s : State) (k : Word) : (s.takeShow k).node = s.node := by
  unfold State.takeShow; split <;> simp

/-! ### `State.comparePixels` -/

@[simp] theorem State.comparePixels_pending (s : State) (n : Word) (ps : List TilePixel) : (s.comparePixels n ps).pending = s.pending := by
  unfold State.comparePixels; repeat' split
  all_goals simp
@[simp] theorem State.comparePixels_out (s : State) (n : Word) (ps : List TilePixel) : (s.comparePixels n ps).out = s.out := by
  unfold State.comparePixels; repeat' split
  all_goals simp
@[simp] theorem State.comparePixels_resetPin (s : State) (n : Word) (ps : List TilePixel) : (s.comparePixels n ps).resetPin = s.resetPin := by
  unfold State.comparePixels; repeat' split
  all_goals simp
@[simp] theorem State.comparePixels_ring (s : State) (n : Word) (ps : List TilePixel) : (s.comparePixels n ps).ring = s.ring := by
  unfold State.comparePixels; repeat' split
  all_goals simp
@[simp] theorem State.comparePixels_address (s : State) (n : Word) (ps : List TilePixel) : (s.comparePixels n ps).address = s.address := by
  unfold State.comparePixels; repeat' split
  all_goals simp
@[simp] theorem State.comparePixels_commands (s : State) (n : Word) (ps : List TilePixel) : (s.comparePixels n ps).commands = s.commands := by
  unfold State.comparePixels; repeat' split
  all_goals simp
@[simp] theorem State.comparePixels_queue (s : State) (n : Word) (ps : List TilePixel) : (s.comparePixels n ps).queue = s.queue := by
  unfold State.comparePixels; repeat' split
  all_goals simp
@[simp] theorem State.comparePixels_banks (s : State) (n : Word) (ps : List TilePixel) : (s.comparePixels n ps).banks = s.banks := by
  unfold State.comparePixels; repeat' split
  all_goals simp
@[simp] theorem State.comparePixels_scan (s : State) (n : Word) (ps : List TilePixel) : (s.comparePixels n ps).scan = s.scan := by
  unfold State.comparePixels; repeat' split
  all_goals simp
@[simp] theorem State.comparePixels_thermal (s : State) (n : Word) (ps : List TilePixel) : (s.comparePixels n ps).thermal = s.thermal := by
  unfold State.comparePixels; repeat' split
  all_goals simp
@[simp] theorem State.comparePixels_store (s : State) (n : Word) (ps : List TilePixel) : (s.comparePixels n ps).store = s.store := by
  unfold State.comparePixels; repeat' split
  all_goals simp
@[simp] theorem State.comparePixels_node (s : State) (n : Word) (ps : List TilePixel) : (s.comparePixels n ps).node = s.node := by
  unfold State.comparePixels; repeat' split
  all_goals simp

/-! ### `State.takePixelPacket` -/

@[simp] theorem State.takePixelPacket_pending (s : State) (n l c m : Word) (v : List Word) : (s.takePixelPacket n l c m v).pending = s.pending := by
  unfold State.takePixelPacket; repeat' split
  all_goals simp
@[simp] theorem State.takePixelPacket_out (s : State) (n l c m : Word) (v : List Word) : (s.takePixelPacket n l c m v).out = s.out := by
  unfold State.takePixelPacket; repeat' split
  all_goals simp
@[simp] theorem State.takePixelPacket_resetPin (s : State) (n l c m : Word) (v : List Word) : (s.takePixelPacket n l c m v).resetPin = s.resetPin := by
  unfold State.takePixelPacket; repeat' split
  all_goals simp
@[simp] theorem State.takePixelPacket_ring (s : State) (n l c m : Word) (v : List Word) : (s.takePixelPacket n l c m v).ring = s.ring := by
  unfold State.takePixelPacket; repeat' split
  all_goals simp
@[simp] theorem State.takePixelPacket_address (s : State) (n l c m : Word) (v : List Word) : (s.takePixelPacket n l c m v).address = s.address := by
  unfold State.takePixelPacket; repeat' split
  all_goals simp
@[simp] theorem State.takePixelPacket_commands (s : State) (n l c m : Word) (v : List Word) : (s.takePixelPacket n l c m v).commands = s.commands := by
  unfold State.takePixelPacket; repeat' split
  all_goals simp
@[simp] theorem State.takePixelPacket_queue (s : State) (n l c m : Word) (v : List Word) : (s.takePixelPacket n l c m v).queue = s.queue := by
  unfold State.takePixelPacket; repeat' split
  all_goals simp
@[simp] theorem State.takePixelPacket_banks (s : State) (n l c m : Word) (v : List Word) : (s.takePixelPacket n l c m v).banks = s.banks := by
  unfold State.takePixelPacket; repeat' split
  all_goals simp
@[simp] theorem State.takePixelPacket_scan (s : State) (n l c m : Word) (v : List Word) : (s.takePixelPacket n l c m v).scan = s.scan := by
  unfold State.takePixelPacket; repeat' split
  all_goals simp
@[simp] theorem State.takePixelPacket_thermal (s : State) (n l c m : Word) (v : List Word) : (s.takePixelPacket n l c m v).thermal = s.thermal := by
  unfold State.takePixelPacket; repeat' split
  all_goals simp
@[simp] theorem State.takePixelPacket_store (s : State) (n l c m : Word) (v : List Word) : (s.takePixelPacket n l c m v).store = s.store := by
  unfold State.takePixelPacket; repeat' split
  all_goals simp
@[simp] theorem State.takePixelPacket_node (s : State) (n l c m : Word) (v : List Word) : (s.takePixelPacket n l c m v).node = s.node := by
  unfold State.takePixelPacket; repeat' split
  all_goals simp

/-! ### `State.holdTimerExpiry` -/

@[simp] theorem State.holdTimerExpiry_pending (s : State) : s.holdTimerExpiry.pending = s.pending := by
  unfold State.holdTimerExpiry; split <;> simp
@[simp] theorem State.holdTimerExpiry_out (s : State) : s.holdTimerExpiry.out = s.out := by
  unfold State.holdTimerExpiry; split <;> simp
@[simp] theorem State.holdTimerExpiry_resetPin (s : State) : s.holdTimerExpiry.resetPin = s.resetPin := by
  unfold State.holdTimerExpiry; split <;> simp
@[simp] theorem State.holdTimerExpiry_ring (s : State) : s.holdTimerExpiry.ring = s.ring := by
  unfold State.holdTimerExpiry; split <;> simp
@[simp] theorem State.holdTimerExpiry_address (s : State) : s.holdTimerExpiry.address = s.address := by
  unfold State.holdTimerExpiry; split <;> simp
@[simp] theorem State.holdTimerExpiry_commands (s : State) : s.holdTimerExpiry.commands = s.commands := by
  unfold State.holdTimerExpiry; split <;> simp
@[simp] theorem State.holdTimerExpiry_banks (s : State) : s.holdTimerExpiry.banks = s.banks := by
  unfold State.holdTimerExpiry; split <;> simp
@[simp] theorem State.holdTimerExpiry_intake (s : State) : s.holdTimerExpiry.intake = s.intake := by
  unfold State.holdTimerExpiry; split <;> simp
@[simp] theorem State.holdTimerExpiry_thermal (s : State) : s.holdTimerExpiry.thermal = s.thermal := by
  unfold State.holdTimerExpiry; split <;> simp
@[simp] theorem State.holdTimerExpiry_store (s : State) : s.holdTimerExpiry.store = s.store := by
  unfold State.holdTimerExpiry; split <;> simp
@[simp] theorem State.holdTimerExpiry_node (s : State) : s.holdTimerExpiry.node = s.node := by
  unfold State.holdTimerExpiry; split <;> simp

/-! ### `State.refreshBoundary` -/

@[simp] theorem State.refreshBoundary_pending (s : State) : s.refreshBoundary.pending = s.pending := by
  unfold State.refreshBoundary; split <;> simp
@[simp] theorem State.refreshBoundary_out (s : State) : s.refreshBoundary.out = s.out := by
  unfold State.refreshBoundary; split <;> simp
@[simp] theorem State.refreshBoundary_resetPin (s : State) : s.refreshBoundary.resetPin = s.resetPin := by
  unfold State.refreshBoundary; split <;> simp
@[simp] theorem State.refreshBoundary_ring (s : State) : s.refreshBoundary.ring = s.ring := by
  unfold State.refreshBoundary; split <;> simp
@[simp] theorem State.refreshBoundary_address (s : State) : s.refreshBoundary.address = s.address := by
  unfold State.refreshBoundary; split <;> simp
@[simp] theorem State.refreshBoundary_commands (s : State) : s.refreshBoundary.commands = s.commands := by
  unfold State.refreshBoundary; split <;> simp
@[simp] theorem State.refreshBoundary_queue (s : State) : s.refreshBoundary.queue = s.queue := by
  unfold State.refreshBoundary; split <;> simp
@[simp] theorem State.refreshBoundary_banks (s : State) : s.refreshBoundary.banks = s.banks := by
  unfold State.refreshBoundary; split <;> simp
@[simp] theorem State.refreshBoundary_intake (s : State) : s.refreshBoundary.intake = s.intake := by
  unfold State.refreshBoundary; split <;> simp
@[simp] theorem State.refreshBoundary_thermal (s : State) : s.refreshBoundary.thermal = s.thermal := by
  unfold State.refreshBoundary; split <;> simp
@[simp] theorem State.refreshBoundary_store (s : State) : s.refreshBoundary.store = s.store := by
  unfold State.refreshBoundary; split <;> simp
@[simp] theorem State.refreshBoundary_node (s : State) : s.refreshBoundary.node = s.node := by
  unfold State.refreshBoundary; split <;> simp

/-! ### `State.changePresentation` -/

@[simp] theorem State.changePresentation_pending (s : State) (old new : NodeState) : (s.changePresentation old new).pending = s.pending := by
  unfold State.changePresentation; repeat' split
  all_goals simp
@[simp] theorem State.changePresentation_out (s : State) (old new : NodeState) : (s.changePresentation old new).out = s.out := by
  unfold State.changePresentation; repeat' split
  all_goals simp
@[simp] theorem State.changePresentation_resetPin (s : State) (old new : NodeState) : (s.changePresentation old new).resetPin = s.resetPin := by
  unfold State.changePresentation; repeat' split
  all_goals simp
@[simp] theorem State.changePresentation_ring (s : State) (old new : NodeState) : (s.changePresentation old new).ring = s.ring := by
  unfold State.changePresentation; repeat' split
  all_goals simp
@[simp] theorem State.changePresentation_address (s : State) (old new : NodeState) : (s.changePresentation old new).address = s.address := by
  unfold State.changePresentation; repeat' split
  all_goals simp
@[simp] theorem State.changePresentation_commands (s : State) (old new : NodeState) : (s.changePresentation old new).commands = s.commands := by
  unfold State.changePresentation; repeat' split
  all_goals simp
@[simp] theorem State.changePresentation_queue (s : State) (old new : NodeState) : (s.changePresentation old new).queue = s.queue := by
  unfold State.changePresentation; repeat' split
  all_goals simp
@[simp] theorem State.changePresentation_banks (s : State) (old new : NodeState) : (s.changePresentation old new).banks = s.banks := by
  unfold State.changePresentation; repeat' split
  all_goals simp
@[simp] theorem State.changePresentation_intake (s : State) (old new : NodeState) : (s.changePresentation old new).intake = s.intake := by
  unfold State.changePresentation; repeat' split
  all_goals simp
@[simp] theorem State.changePresentation_thermal (s : State) (old new : NodeState) : (s.changePresentation old new).thermal = s.thermal := by
  unfold State.changePresentation; repeat' split
  all_goals simp
@[simp] theorem State.changePresentation_store (s : State) (old new : NodeState) : (s.changePresentation old new).store = s.store := by
  unfold State.changePresentation; repeat' split
  all_goals simp
@[simp] theorem State.changePresentation_node (s : State) (old new : NodeState) : (s.changePresentation old new).node = s.node := by
  unfold State.changePresentation; repeat' split
  all_goals simp

/-! ### `State.setState` -/

@[simp] theorem State.setState_pending (s : State) (t p r g b : Word) : (s.setState t p r g b).pending = s.pending := by
  unfold State.setState; split <;> simp
@[simp] theorem State.setState_out (s : State) (t p r g b : Word) : (s.setState t p r g b).out = s.out := by
  unfold State.setState; split <;> simp
@[simp] theorem State.setState_resetPin (s : State) (t p r g b : Word) : (s.setState t p r g b).resetPin = s.resetPin := by
  unfold State.setState; split <;> simp
@[simp] theorem State.setState_ring (s : State) (t p r g b : Word) : (s.setState t p r g b).ring = s.ring := by
  unfold State.setState; split <;> simp
@[simp] theorem State.setState_address (s : State) (t p r g b : Word) : (s.setState t p r g b).address = s.address := by
  unfold State.setState; split <;> simp
@[simp] theorem State.setState_commands (s : State) (t p r g b : Word) : (s.setState t p r g b).commands = s.commands := by
  unfold State.setState; split <;> simp
@[simp] theorem State.setState_queue (s : State) (t p r g b : Word) : (s.setState t p r g b).queue = s.queue := by
  unfold State.setState; split <;> simp
@[simp] theorem State.setState_banks (s : State) (t p r g b : Word) : (s.setState t p r g b).banks = s.banks := by
  unfold State.setState; split <;> simp
@[simp] theorem State.setState_intake (s : State) (t p r g b : Word) : (s.setState t p r g b).intake = s.intake := by
  unfold State.setState; split <;> simp
@[simp] theorem State.setState_thermal (s : State) (t p r g b : Word) : (s.setState t p r g b).thermal = s.thermal := by
  unfold State.setState; split <;> simp
@[simp] theorem State.setState_store (s : State) (t p r g b : Word) : (s.setState t p r g b).store = s.store := by
  unfold State.setState; split <;> simp

/-! ### `State.setIdentity` -/

@[simp] theorem State.setIdentity_pending (s : State) (i g : Word) : (s.setIdentity i g).pending = s.pending := by
  unfold State.setIdentity; split <;> simp
@[simp] theorem State.setIdentity_out (s : State) (i g : Word) : (s.setIdentity i g).out = s.out := by
  unfold State.setIdentity; split <;> simp
@[simp] theorem State.setIdentity_resetPin (s : State) (i g : Word) : (s.setIdentity i g).resetPin = s.resetPin := by
  unfold State.setIdentity; split <;> simp
@[simp] theorem State.setIdentity_ring (s : State) (i g : Word) : (s.setIdentity i g).ring = s.ring := by
  unfold State.setIdentity; split <;> simp
@[simp] theorem State.setIdentity_commands (s : State) (i g : Word) : (s.setIdentity i g).commands = s.commands := by
  unfold State.setIdentity; split <;> simp
@[simp] theorem State.setIdentity_queue (s : State) (i g : Word) : (s.setIdentity i g).queue = s.queue := by
  unfold State.setIdentity; split <;> simp
@[simp] theorem State.setIdentity_banks (s : State) (i g : Word) : (s.setIdentity i g).banks = s.banks := by
  unfold State.setIdentity; split <;> simp
@[simp] theorem State.setIdentity_intake (s : State) (i g : Word) : (s.setIdentity i g).intake = s.intake := by
  unfold State.setIdentity; split <;> simp
@[simp] theorem State.setIdentity_frames (s : State) (i g : Word) : (s.setIdentity i g).frames = s.frames := by
  unfold State.setIdentity; split <;> simp
@[simp] theorem State.setIdentity_scan (s : State) (i g : Word) : (s.setIdentity i g).scan = s.scan := by
  unfold State.setIdentity; split <;> simp
@[simp] theorem State.setIdentity_thermal (s : State) (i g : Word) : (s.setIdentity i g).thermal = s.thermal := by
  unfold State.setIdentity; split <;> simp
@[simp] theorem State.setIdentity_store (s : State) (i g : Word) : (s.setIdentity i g).store = s.store := by
  unfold State.setIdentity; split <;> simp
@[simp] theorem State.setIdentity_node (s : State) (i g : Word) : (s.setIdentity i g).node = s.node := by
  unfold State.setIdentity; split <;> simp

/-! ### `State.takePosition` -/

@[simp] theorem State.takePosition_pending (s : State) (q : Word) : (s.takePosition q).pending = s.pending := by
  unfold State.takePosition; dsimp only; split <;> simp
@[simp] theorem State.takePosition_out (s : State) (q : Word) : (s.takePosition q).out = s.out := by
  unfold State.takePosition; dsimp only; split <;> simp
@[simp] theorem State.takePosition_resetPin (s : State) (q : Word) : (s.takePosition q).resetPin = s.resetPin := by
  unfold State.takePosition; dsimp only; split <;> simp
@[simp] theorem State.takePosition_ring (s : State) (q : Word) : (s.takePosition q).ring = s.ring := by
  unfold State.takePosition; dsimp only; split <;> simp
@[simp] theorem State.takePosition_queue (s : State) (q : Word) : (s.takePosition q).queue = s.queue := by
  unfold State.takePosition; dsimp only; split <;> simp
@[simp] theorem State.takePosition_banks (s : State) (q : Word) : (s.takePosition q).banks = s.banks := by
  unfold State.takePosition; dsimp only; split <;> simp
@[simp] theorem State.takePosition_intake (s : State) (q : Word) : (s.takePosition q).intake = s.intake := by
  unfold State.takePosition; dsimp only; split <;> simp
@[simp] theorem State.takePosition_frames (s : State) (q : Word) : (s.takePosition q).frames = s.frames := by
  unfold State.takePosition; dsimp only; split <;> simp
@[simp] theorem State.takePosition_scan (s : State) (q : Word) : (s.takePosition q).scan = s.scan := by
  unfold State.takePosition; dsimp only; split <;> simp
@[simp] theorem State.takePosition_thermal (s : State) (q : Word) : (s.takePosition q).thermal = s.thermal := by
  unfold State.takePosition; dsimp only; split <;> simp
@[simp] theorem State.takePosition_store (s : State) (q : Word) : (s.takePosition q).store = s.store := by
  unfold State.takePosition; dsimp only; split <;> simp
@[simp] theorem State.takePosition_node (s : State) (q : Word) : (s.takePosition q).node = s.node := by
  unfold State.takePosition; dsimp only; split <;> simp

/-! ### `State.setNotices` -/

@[simp] theorem State.setNotices_pending (s : State) (m : Word) : (s.setNotices m).pending = s.pending := by
  unfold State.setNotices; split <;> simp
@[simp] theorem State.setNotices_out (s : State) (m : Word) : (s.setNotices m).out = s.out := by
  unfold State.setNotices; split <;> simp
@[simp] theorem State.setNotices_resetPin (s : State) (m : Word) : (s.setNotices m).resetPin = s.resetPin := by
  unfold State.setNotices; split <;> simp
@[simp] theorem State.setNotices_ring (s : State) (m : Word) : (s.setNotices m).ring = s.ring := by
  unfold State.setNotices; split <;> simp
@[simp] theorem State.setNotices_address (s : State) (m : Word) : (s.setNotices m).address = s.address := by
  unfold State.setNotices; split <;> simp
@[simp] theorem State.setNotices_commands (s : State) (m : Word) : (s.setNotices m).commands = s.commands := by
  unfold State.setNotices; split <;> simp
@[simp] theorem State.setNotices_banks (s : State) (m : Word) : (s.setNotices m).banks = s.banks := by
  unfold State.setNotices; split <;> simp
@[simp] theorem State.setNotices_intake (s : State) (m : Word) : (s.setNotices m).intake = s.intake := by
  unfold State.setNotices; split <;> simp
@[simp] theorem State.setNotices_frames (s : State) (m : Word) : (s.setNotices m).frames = s.frames := by
  unfold State.setNotices; split <;> simp
@[simp] theorem State.setNotices_scan (s : State) (m : Word) : (s.setNotices m).scan = s.scan := by
  unfold State.setNotices; split <;> simp
@[simp] theorem State.setNotices_thermal (s : State) (m : Word) : (s.setNotices m).thermal = s.thermal := by
  unfold State.setNotices; split <;> simp
@[simp] theorem State.setNotices_store (s : State) (m : Word) : (s.setNotices m).store = s.store := by
  unfold State.setNotices; split <;> simp
@[simp] theorem State.setNotices_node (s : State) (m : Word) : (s.setNotices m).node = s.node := by
  unfold State.setNotices; split <;> simp

/-! ### `State.writeTable` -/

@[simp] theorem State.writeTable_pending (s : State) (t st : Word) (vs : List Word) : (s.writeTable t st vs).pending = s.pending := by
  unfold State.writeTable; split <;> simp
@[simp] theorem State.writeTable_out (s : State) (t st : Word) (vs : List Word) : (s.writeTable t st vs).out = s.out := by
  unfold State.writeTable; split <;> simp
@[simp] theorem State.writeTable_resetPin (s : State) (t st : Word) (vs : List Word) : (s.writeTable t st vs).resetPin = s.resetPin := by
  unfold State.writeTable; split <;> simp
@[simp] theorem State.writeTable_ring (s : State) (t st : Word) (vs : List Word) : (s.writeTable t st vs).ring = s.ring := by
  unfold State.writeTable; split <;> simp
@[simp] theorem State.writeTable_address (s : State) (t st : Word) (vs : List Word) : (s.writeTable t st vs).address = s.address := by
  unfold State.writeTable; split <;> simp
@[simp] theorem State.writeTable_commands (s : State) (t st : Word) (vs : List Word) : (s.writeTable t st vs).commands = s.commands := by
  unfold State.writeTable; split <;> simp
@[simp] theorem State.writeTable_queue (s : State) (t st : Word) (vs : List Word) : (s.writeTable t st vs).queue = s.queue := by
  unfold State.writeTable; split <;> simp
@[simp] theorem State.writeTable_intake (s : State) (t st : Word) (vs : List Word) : (s.writeTable t st vs).intake = s.intake := by
  unfold State.writeTable; split <;> simp
@[simp] theorem State.writeTable_frames (s : State) (t st : Word) (vs : List Word) : (s.writeTable t st vs).frames = s.frames := by
  unfold State.writeTable; split <;> simp
@[simp] theorem State.writeTable_scan (s : State) (t st : Word) (vs : List Word) : (s.writeTable t st vs).scan = s.scan := by
  unfold State.writeTable; split <;> simp
@[simp] theorem State.writeTable_thermal (s : State) (t st : Word) (vs : List Word) : (s.writeTable t st vs).thermal = s.thermal := by
  unfold State.writeTable; split <;> simp
@[simp] theorem State.writeTable_store (s : State) (t st : Word) (vs : List Word) : (s.writeTable t st vs).store = s.store := by
  unfold State.writeTable; split <;> simp
@[simp] theorem State.writeTable_node (s : State) (t st : Word) (vs : List Word) : (s.writeTable t st vs).node = s.node := by
  unfold State.writeTable; split <;> simp

/-! ### `State.refusedCommit` -/

@[simp] theorem State.refusedCommit_pending (s : State) (k : Word) : (s.refusedCommit k).pending = s.pending := by
  unfold State.refusedCommit; repeat' split
  all_goals simp
@[simp] theorem State.refusedCommit_out (s : State) (k : Word) : (s.refusedCommit k).out = s.out := by
  unfold State.refusedCommit; repeat' split
  all_goals simp
@[simp] theorem State.refusedCommit_resetPin (s : State) (k : Word) : (s.refusedCommit k).resetPin = s.resetPin := by
  unfold State.refusedCommit; repeat' split
  all_goals simp
@[simp] theorem State.refusedCommit_ring (s : State) (k : Word) : (s.refusedCommit k).ring = s.ring := by
  unfold State.refusedCommit; repeat' split
  all_goals simp
@[simp] theorem State.refusedCommit_address (s : State) (k : Word) : (s.refusedCommit k).address = s.address := by
  unfold State.refusedCommit; repeat' split
  all_goals simp
@[simp] theorem State.refusedCommit_commands (s : State) (k : Word) : (s.refusedCommit k).commands = s.commands := by
  unfold State.refusedCommit; repeat' split
  all_goals simp
@[simp] theorem State.refusedCommit_queue (s : State) (k : Word) : (s.refusedCommit k).queue = s.queue := by
  unfold State.refusedCommit; repeat' split
  all_goals simp
@[simp] theorem State.refusedCommit_intake (s : State) (k : Word) : (s.refusedCommit k).intake = s.intake := by
  unfold State.refusedCommit; repeat' split
  all_goals simp
@[simp] theorem State.refusedCommit_frames (s : State) (k : Word) : (s.refusedCommit k).frames = s.frames := by
  unfold State.refusedCommit; repeat' split
  all_goals simp
@[simp] theorem State.refusedCommit_scan (s : State) (k : Word) : (s.refusedCommit k).scan = s.scan := by
  unfold State.refusedCommit; repeat' split
  all_goals simp
@[simp] theorem State.refusedCommit_thermal (s : State) (k : Word) : (s.refusedCommit k).thermal = s.thermal := by
  unfold State.refusedCommit; repeat' split
  all_goals simp
@[simp] theorem State.refusedCommit_store (s : State) (k : Word) : (s.refusedCommit k).store = s.store := by
  unfold State.refusedCommit; repeat' split
  all_goals simp
@[simp] theorem State.refusedCommit_node (s : State) (k : Word) : (s.refusedCommit k).node = s.node := by
  unfold State.refusedCommit; repeat' split
  all_goals simp

/-! ### `State.acceptCommit` -/

@[simp] theorem State.acceptCommit_pending (s : State) (k f : Word) : (s.acceptCommit k f).pending = s.pending := by
  unfold State.acceptCommit; dsimp only; split <;> simp
@[simp] theorem State.acceptCommit_out (s : State) (k f : Word) : (s.acceptCommit k f).out = s.out := by
  unfold State.acceptCommit; dsimp only; split <;> simp
@[simp] theorem State.acceptCommit_resetPin (s : State) (k f : Word) : (s.acceptCommit k f).resetPin = s.resetPin := by
  unfold State.acceptCommit; dsimp only; split <;> simp
@[simp] theorem State.acceptCommit_ring (s : State) (k f : Word) : (s.acceptCommit k f).ring = s.ring := by
  unfold State.acceptCommit; dsimp only; split <;> simp
@[simp] theorem State.acceptCommit_address (s : State) (k f : Word) : (s.acceptCommit k f).address = s.address := by
  unfold State.acceptCommit; dsimp only; split <;> simp
@[simp] theorem State.acceptCommit_commands (s : State) (k f : Word) : (s.acceptCommit k f).commands = s.commands := by
  unfold State.acceptCommit; dsimp only; split <;> simp
@[simp] theorem State.acceptCommit_intake (s : State) (k f : Word) : (s.acceptCommit k f).intake = s.intake := by
  unfold State.acceptCommit; dsimp only; split <;> simp
@[simp] theorem State.acceptCommit_frames (s : State) (k f : Word) : (s.acceptCommit k f).frames = s.frames := by
  unfold State.acceptCommit; dsimp only; split <;> simp
@[simp] theorem State.acceptCommit_scan (s : State) (k f : Word) : (s.acceptCommit k f).scan = s.scan := by
  unfold State.acceptCommit; dsimp only; split <;> simp
@[simp] theorem State.acceptCommit_store (s : State) (k f : Word) : (s.acceptCommit k f).store = s.store := by
  unfold State.acceptCommit; dsimp only; split <;> simp
@[simp] theorem State.acceptCommit_node (s : State) (k f : Word) : (s.acceptCommit k f).node = s.node := by
  unfold State.acceptCommit; dsimp only; split <;> simp

/-! ### `State.storeTables` -/

@[simp] theorem State.storeTables_pending (s : State) (w : Word) : (s.storeTables w).pending = s.pending := by
  simp [State.storeTables]
@[simp] theorem State.storeTables_out (s : State) (w : Word) : (s.storeTables w).out = s.out := by
  simp [State.storeTables]
@[simp] theorem State.storeTables_resetPin (s : State) (w : Word) : (s.storeTables w).resetPin = s.resetPin := by
  simp [State.storeTables]
@[simp] theorem State.storeTables_ring (s : State) (w : Word) : (s.storeTables w).ring = s.ring := by
  simp [State.storeTables]
@[simp] theorem State.storeTables_address (s : State) (w : Word) : (s.storeTables w).address = s.address := by
  simp [State.storeTables]
@[simp] theorem State.storeTables_commands (s : State) (w : Word) : (s.storeTables w).commands = s.commands := by
  simp [State.storeTables]
@[simp] theorem State.storeTables_banks (s : State) (w : Word) : (s.storeTables w).banks = s.banks := by
  simp [State.storeTables]
@[simp] theorem State.storeTables_intake (s : State) (w : Word) : (s.storeTables w).intake = s.intake := by
  simp [State.storeTables]
@[simp] theorem State.storeTables_frames (s : State) (w : Word) : (s.storeTables w).frames = s.frames := by
  simp [State.storeTables]
@[simp] theorem State.storeTables_scan (s : State) (w : Word) : (s.storeTables w).scan = s.scan := by
  simp [State.storeTables]
@[simp] theorem State.storeTables_thermal (s : State) (w : Word) : (s.storeTables w).thermal = s.thermal := by
  simp [State.storeTables]
@[simp] theorem State.storeTables_node (s : State) (w : Word) : (s.storeTables w).node = s.node := by
  simp [State.storeTables]

/-! ### `State.loadStored` -/

@[simp] theorem State.loadStored_pending (s : State) (w : Word) : (s.loadStored w).pending = s.pending := by
  simp [State.loadStored]
@[simp] theorem State.loadStored_out (s : State) (w : Word) : (s.loadStored w).out = s.out := by
  simp [State.loadStored]
@[simp] theorem State.loadStored_resetPin (s : State) (w : Word) : (s.loadStored w).resetPin = s.resetPin := by
  simp [State.loadStored]
@[simp] theorem State.loadStored_ring (s : State) (w : Word) : (s.loadStored w).ring = s.ring := by
  simp [State.loadStored]
@[simp] theorem State.loadStored_address (s : State) (w : Word) : (s.loadStored w).address = s.address := by
  simp [State.loadStored]
@[simp] theorem State.loadStored_commands (s : State) (w : Word) : (s.loadStored w).commands = s.commands := by
  simp [State.loadStored]
@[simp] theorem State.loadStored_banks (s : State) (w : Word) : (s.loadStored w).banks = s.banks := by
  simp [State.loadStored]
@[simp] theorem State.loadStored_intake (s : State) (w : Word) : (s.loadStored w).intake = s.intake := by
  simp [State.loadStored]
@[simp] theorem State.loadStored_frames (s : State) (w : Word) : (s.loadStored w).frames = s.frames := by
  simp [State.loadStored]
@[simp] theorem State.loadStored_scan (s : State) (w : Word) : (s.loadStored w).scan = s.scan := by
  simp [State.loadStored]
@[simp] theorem State.loadStored_thermal (s : State) (w : Word) : (s.loadStored w).thermal = s.thermal := by
  simp [State.loadStored]
@[simp] theorem State.loadStored_node (s : State) (w : Word) : (s.loadStored w).node = s.node := by
  simp [State.loadStored]

/-! ### `State.eraseCompletion` -/

@[simp] theorem State.eraseCompletion_pending (s : State) : s.eraseCompletion.pending = s.pending := by
  unfold State.eraseCompletion; split <;> simp
@[simp] theorem State.eraseCompletion_out (s : State) : s.eraseCompletion.out = s.out := by
  unfold State.eraseCompletion; split <;> simp
@[simp] theorem State.eraseCompletion_resetPin (s : State) : s.eraseCompletion.resetPin = s.resetPin := by
  unfold State.eraseCompletion; split <;> simp
@[simp] theorem State.eraseCompletion_ring (s : State) : s.eraseCompletion.ring = s.ring := by
  unfold State.eraseCompletion; split <;> simp
@[simp] theorem State.eraseCompletion_address (s : State) : s.eraseCompletion.address = s.address := by
  unfold State.eraseCompletion; split <;> simp
@[simp] theorem State.eraseCompletion_commands (s : State) : s.eraseCompletion.commands = s.commands := by
  unfold State.eraseCompletion; split <;> simp
@[simp] theorem State.eraseCompletion_queue (s : State) : s.eraseCompletion.queue = s.queue := by
  unfold State.eraseCompletion; split <;> simp
@[simp] theorem State.eraseCompletion_banks (s : State) : s.eraseCompletion.banks = s.banks := by
  unfold State.eraseCompletion; split <;> simp
@[simp] theorem State.eraseCompletion_intake (s : State) : s.eraseCompletion.intake = s.intake := by
  unfold State.eraseCompletion; split <;> simp
@[simp] theorem State.eraseCompletion_frames (s : State) : s.eraseCompletion.frames = s.frames := by
  unfold State.eraseCompletion; split <;> simp
@[simp] theorem State.eraseCompletion_scan (s : State) : s.eraseCompletion.scan = s.scan := by
  unfold State.eraseCompletion; split <;> simp
@[simp] theorem State.eraseCompletion_thermal (s : State) : s.eraseCompletion.thermal = s.thermal := by
  unfold State.eraseCompletion; split <;> simp
@[simp] theorem State.eraseCompletion_node (s : State) : s.eraseCompletion.node = s.node := by
  unfold State.eraseCompletion; split <;> simp

/-! ### `State.programCompletion` -/

@[simp] theorem State.programCompletion_pending (s : State) (ds : List Defect) : (s.programCompletion ds).pending = s.pending := by
  unfold State.programCompletion; split <;> simp
@[simp] theorem State.programCompletion_out (s : State) (ds : List Defect) : (s.programCompletion ds).out = s.out := by
  unfold State.programCompletion; split <;> simp
@[simp] theorem State.programCompletion_resetPin (s : State) (ds : List Defect) : (s.programCompletion ds).resetPin = s.resetPin := by
  unfold State.programCompletion; split <;> simp
@[simp] theorem State.programCompletion_ring (s : State) (ds : List Defect) : (s.programCompletion ds).ring = s.ring := by
  unfold State.programCompletion; split <;> simp
@[simp] theorem State.programCompletion_address (s : State) (ds : List Defect) : (s.programCompletion ds).address = s.address := by
  unfold State.programCompletion; split <;> simp
@[simp] theorem State.programCompletion_commands (s : State) (ds : List Defect) : (s.programCompletion ds).commands = s.commands := by
  unfold State.programCompletion; split <;> simp
@[simp] theorem State.programCompletion_queue (s : State) (ds : List Defect) : (s.programCompletion ds).queue = s.queue := by
  unfold State.programCompletion; split <;> simp
@[simp] theorem State.programCompletion_banks (s : State) (ds : List Defect) : (s.programCompletion ds).banks = s.banks := by
  unfold State.programCompletion; split <;> simp
@[simp] theorem State.programCompletion_intake (s : State) (ds : List Defect) : (s.programCompletion ds).intake = s.intake := by
  unfold State.programCompletion; split <;> simp
@[simp] theorem State.programCompletion_frames (s : State) (ds : List Defect) : (s.programCompletion ds).frames = s.frames := by
  unfold State.programCompletion; split <;> simp
@[simp] theorem State.programCompletion_scan (s : State) (ds : List Defect) : (s.programCompletion ds).scan = s.scan := by
  unfold State.programCompletion; split <;> simp
@[simp] theorem State.programCompletion_thermal (s : State) (ds : List Defect) : (s.programCompletion ds).thermal = s.thermal := by
  unfold State.programCompletion; split <;> simp
@[simp] theorem State.programCompletion_node (s : State) (ds : List Defect) : (s.programCompletion ds).node = s.node := by
  unfold State.programCompletion; split <;> simp

/-! ### `State.verifyCompletion` -/

@[simp] theorem State.verifyCompletion_pending (s : State) : s.verifyCompletion.pending = s.pending := by
  unfold State.verifyCompletion; split <;> simp
@[simp] theorem State.verifyCompletion_out (s : State) : s.verifyCompletion.out = s.out := by
  unfold State.verifyCompletion; split <;> simp
@[simp] theorem State.verifyCompletion_resetPin (s : State) : s.verifyCompletion.resetPin = s.resetPin := by
  unfold State.verifyCompletion; split <;> simp
@[simp] theorem State.verifyCompletion_ring (s : State) : s.verifyCompletion.ring = s.ring := by
  unfold State.verifyCompletion; split <;> simp
@[simp] theorem State.verifyCompletion_address (s : State) : s.verifyCompletion.address = s.address := by
  unfold State.verifyCompletion; split <;> simp
@[simp] theorem State.verifyCompletion_commands (s : State) : s.verifyCompletion.commands = s.commands := by
  unfold State.verifyCompletion; split <;> simp
@[simp] theorem State.verifyCompletion_banks (s : State) : s.verifyCompletion.banks = s.banks := by
  unfold State.verifyCompletion; split <;> simp
@[simp] theorem State.verifyCompletion_intake (s : State) : s.verifyCompletion.intake = s.intake := by
  unfold State.verifyCompletion; split <;> simp
@[simp] theorem State.verifyCompletion_frames (s : State) : s.verifyCompletion.frames = s.frames := by
  unfold State.verifyCompletion; split <;> simp
@[simp] theorem State.verifyCompletion_scan (s : State) : s.verifyCompletion.scan = s.scan := by
  unfold State.verifyCompletion; split <;> simp
@[simp] theorem State.verifyCompletion_thermal (s : State) : s.verifyCompletion.thermal = s.thermal := by
  unfold State.verifyCompletion; split <;> simp
@[simp] theorem State.verifyCompletion_node (s : State) : s.verifyCompletion.node = s.node := by
  unfold State.verifyCompletion; split <;> simp

/-! ### `State.loadBank` -/

@[simp] theorem State.loadBank_pending (s : State) (i : Option ImageId) : (s.loadBank i).pending = s.pending := by
  unfold State.loadBank; repeat' split
  all_goals simp
@[simp] theorem State.loadBank_out (s : State) (i : Option ImageId) : (s.loadBank i).out = s.out := by
  unfold State.loadBank; repeat' split
  all_goals simp
@[simp] theorem State.loadBank_resetPin (s : State) (i : Option ImageId) : (s.loadBank i).resetPin = s.resetPin := by
  unfold State.loadBank; repeat' split
  all_goals simp
@[simp] theorem State.loadBank_ring (s : State) (i : Option ImageId) : (s.loadBank i).ring = s.ring := by
  unfold State.loadBank; repeat' split
  all_goals simp
@[simp] theorem State.loadBank_address (s : State) (i : Option ImageId) : (s.loadBank i).address = s.address := by
  unfold State.loadBank; repeat' split
  all_goals simp
@[simp] theorem State.loadBank_commands (s : State) (i : Option ImageId) : (s.loadBank i).commands = s.commands := by
  unfold State.loadBank; repeat' split
  all_goals simp
@[simp] theorem State.loadBank_queue (s : State) (i : Option ImageId) : (s.loadBank i).queue = s.queue := by
  unfold State.loadBank; repeat' split
  all_goals simp
@[simp] theorem State.loadBank_intake (s : State) (i : Option ImageId) : (s.loadBank i).intake = s.intake := by
  unfold State.loadBank; repeat' split
  all_goals simp
@[simp] theorem State.loadBank_frames (s : State) (i : Option ImageId) : (s.loadBank i).frames = s.frames := by
  unfold State.loadBank; repeat' split
  all_goals simp
@[simp] theorem State.loadBank_scan (s : State) (i : Option ImageId) : (s.loadBank i).scan = s.scan := by
  unfold State.loadBank; repeat' split
  all_goals simp
@[simp] theorem State.loadBank_thermal (s : State) (i : Option ImageId) : (s.loadBank i).thermal = s.thermal := by
  unfold State.loadBank; repeat' split
  all_goals simp
@[simp] theorem State.loadBank_store (s : State) (i : Option ImageId) : (s.loadBank i).store = s.store := by
  unfold State.loadBank; repeat' split
  all_goals simp
@[simp] theorem State.loadBank_node (s : State) (i : Option ImageId) : (s.loadBank i).node = s.node := by
  unfold State.loadBank; repeat' split
  all_goals simp

/-! ### `State.loadCompletion` -/

@[simp] theorem State.loadCompletion_pending (s : State) : s.loadCompletion.pending = s.pending := by
  unfold State.loadCompletion; split <;> simp
@[simp] theorem State.loadCompletion_out (s : State) : s.loadCompletion.out = s.out := by
  unfold State.loadCompletion; split <;> simp
@[simp] theorem State.loadCompletion_resetPin (s : State) : s.loadCompletion.resetPin = s.resetPin := by
  unfold State.loadCompletion; split <;> simp
@[simp] theorem State.loadCompletion_ring (s : State) : s.loadCompletion.ring = s.ring := by
  unfold State.loadCompletion; split <;> simp
@[simp] theorem State.loadCompletion_address (s : State) : s.loadCompletion.address = s.address := by
  unfold State.loadCompletion; split <;> simp
@[simp] theorem State.loadCompletion_commands (s : State) : s.loadCompletion.commands = s.commands := by
  unfold State.loadCompletion; split <;> simp
@[simp] theorem State.loadCompletion_intake (s : State) : s.loadCompletion.intake = s.intake := by
  unfold State.loadCompletion; split <;> simp
@[simp] theorem State.loadCompletion_frames (s : State) : s.loadCompletion.frames = s.frames := by
  unfold State.loadCompletion; split <;> simp
@[simp] theorem State.loadCompletion_scan (s : State) : s.loadCompletion.scan = s.scan := by
  unfold State.loadCompletion; split <;> simp
@[simp] theorem State.loadCompletion_thermal (s : State) : s.loadCompletion.thermal = s.thermal := by
  unfold State.loadCompletion; split <;> simp
@[simp] theorem State.loadCompletion_node (s : State) : s.loadCompletion.node = s.node := by
  unfold State.loadCompletion; split <;> simp

/-! ### `State.takeCollect` -/

@[simp] theorem State.takeCollect_pending (s : State) (m v c : Word) (u : Nat) : (s.takeCollect m v c u).1.pending = s.pending := by
  unfold State.takeCollect; split <;> simp
@[simp] theorem State.takeCollect_out (s : State) (m v c : Word) (u : Nat) : (s.takeCollect m v c u).1.out = s.out := by
  unfold State.takeCollect; split <;> simp
@[simp] theorem State.takeCollect_resetPin (s : State) (m v c : Word) (u : Nat) : (s.takeCollect m v c u).1.resetPin = s.resetPin := by
  unfold State.takeCollect; split <;> simp
@[simp] theorem State.takeCollect_ring (s : State) (m v c : Word) (u : Nat) : (s.takeCollect m v c u).1.ring = s.ring := by
  unfold State.takeCollect; split <;> simp
@[simp] theorem State.takeCollect_address (s : State) (m v c : Word) (u : Nat) : (s.takeCollect m v c u).1.address = s.address := by
  unfold State.takeCollect; split <;> simp
@[simp] theorem State.takeCollect_commands (s : State) (m v c : Word) (u : Nat) : (s.takeCollect m v c u).1.commands = s.commands := by
  unfold State.takeCollect; split <;> simp
@[simp] theorem State.takeCollect_banks (s : State) (m v c : Word) (u : Nat) : (s.takeCollect m v c u).1.banks = s.banks := by
  unfold State.takeCollect; split <;> simp
@[simp] theorem State.takeCollect_intake (s : State) (m v c : Word) (u : Nat) : (s.takeCollect m v c u).1.intake = s.intake := by
  unfold State.takeCollect; split <;> simp
@[simp] theorem State.takeCollect_frames (s : State) (m v c : Word) (u : Nat) : (s.takeCollect m v c u).1.frames = s.frames := by
  unfold State.takeCollect; split <;> simp
@[simp] theorem State.takeCollect_scan (s : State) (m v c : Word) (u : Nat) : (s.takeCollect m v c u).1.scan = s.scan := by
  unfold State.takeCollect; split <;> simp
@[simp] theorem State.takeCollect_thermal (s : State) (m v c : Word) (u : Nat) : (s.takeCollect m v c u).1.thermal = s.thermal := by
  unfold State.takeCollect; split <;> simp
@[simp] theorem State.takeCollect_store (s : State) (m v c : Word) (u : Nat) : (s.takeCollect m v c u).1.store = s.store := by
  unfold State.takeCollect; split <;> simp
@[simp] theorem State.takeCollect_node (s : State) (m v c : Word) (u : Nat) : (s.takeCollect m v c u).1.node = s.node := by
  unfold State.takeCollect; split <;> simp

end Sys2Proof.Machine
end

