-- ==== Sys2Proof/Laws/Wire.lean ====
section
/-! SUPPORT. The wire: a kind word gives back its code and attributes, and a well-formed packet's words are judged to
be that packet. -/

namespace Sys2Proof

@[simp] theorem kindCode_kindWord (a : BitVec 8) (c : Nat) (hc : c < 256) : kindCode (kindWord a c) = c := by
  have := a.isLt
  simp only [kindCode, kindWord, BitVec.toNat_ofNat]
  omega

@[simp] theorem kindAttrs_kindWord (a : BitVec 8) (c : Nat) (hc : c < 256) : kindAttrs (kindWord a c) = a := by
  have := a.isLt
  apply BitVec.eq_of_toNat_eq
  simp only [kindAttrs, kindWord, BitVec.toNat_ofNat]
  omega

theorem Packet.kind_lt (p : Packet) : p.kind < 256 := by cases p <;> simp [Packet.kind]

@[simp] theorem length_withCheck (kind : Word) (payload : List Word) :
    (withCheck kind payload).length = payload.length + 3 := by
  simp [withCheck]

/-- A packet with its right check word is judged by its kind alone. -/
theorem judge_withCheck (kind : Word) (payload : List Word) (h : payload.length ≤ Config.maxPayload) :
    judge (withCheck kind payload) = judgeKind kind payload := by
  have hlt : payload.length % 65536 = payload.length := by
    have : payload.length ≤ 1024 := h
    omega
  have hn : ¬ Config.maxPayload < payload.length := by omega
  simp [withCheck, judge, hn, hlt]

theorem Header.wf_iff (h : Header) : h.wf = true ↔ h.refusalMap.length = if isMulticast h.mode then 4 else 0 := by
  simp [Header.wf]

theorem parseParams_payload (h : Header) (code : Word) (params : List Word) (hp : params.length ≤ Config.maxParams) :
    parseParams h code (BitVec.ofNat 16 params.length :: params) = some (.control h code params) := by
  have h1 : params.length ≤ 1000 := hp
  have h2 : params.length % 65536 = params.length := by omega
  simp [parseParams, h2, h1]

theorem parseControl_payload (h : Header) (code : Word) (params : List Word) (hw : h.wf = true)
    (hp : params.length ≤ Config.maxParams) :
    parseControl h.attrs (Packet.control h code params).payload = some (.control h code params) := by
  obtain ⟨attrs, mode, value, sequence, disposition, accepts, refuses, map⟩ := h
  rw [Header.wf_iff] at hw
  cases hm : isMulticast mode
  · have : map = [] := by simpa [hm] using hw
    subst this
    simp [Packet.payload, parseControl, hm, parseParams_payload _ _ _ hp]
  · have hl : map.length = 4 := by simpa [hm] using hw
    match map, hl with
    | [a, b, c, d], _ => simp [Packet.payload, parseControl, hm, parseParams_payload _ _ _ hp]

theorem Packet.payload_length (p : Packet) (h : p.wf = true) : p.payload.length ≤ Config.maxPayload := by
  cases p with
  | control hd code params =>
    simp only [Packet.wf, Bool.and_eq_true, Header.wf_iff, decide_eq_true_eq] at h
    have h1 : hd.refusalMap.length ≤ 4 := by
      rw [h.1]; split <;> omega
    have h2 : params.length ≤ 1000 := h.2
    simp only [Packet.payload, Config.maxPayload, List.length_append, List.length_cons, List.length_nil]
    omega
  | _ => simp [Packet.wf, Packet.payload, Config.maxPayload] at * <;> omega

/-- R150: the words of a well-formed packet are judged to be that packet. -/
theorem judge_words (p : Packet) (h : p.wf = true) : judge p.words = .wellFormed p := by
  rw [Packet.words, judge_withCheck _ _ (p.payload_length h)]
  cases p with
  | fill a payload => simp [judgeKind, Packet.kind, Packet.attrs, Packet.payload]
  | pixel a frame line column count samples =>
    have : samples.length = 3 * count.toNat := by
      simp [Packet.wf] at h; exact h.1
    simp [judgeKind, Packet.kind, Packet.attrs, Packet.payload, parsePixel, this, Judged.ofParsed]
  | showFrame a frame => simp [judgeKind, Packet.kind, Packet.attrs, Packet.payload, parseShow, Judged.ofParsed]
  | control hd code params =>
    have hw : hd.wf = true ∧ params.length ≤ Config.maxParams := by simpa [Packet.wf] using h
    simp [judgeKind, Packet.kind, Packet.attrs, parseControl_payload _ _ _ hw.1 hw.2, Judged.ofParsed]
  | collect a mode value capacity records =>
    have h1 : records.length + 4 ≤ 1024 := by simpa [Packet.wf, Config.maxPayload] using h
    have h2 : records.length % 65536 = records.length := by omega
    simp [judgeKind, Packet.kind, Packet.attrs, Packet.payload, parseCollect, h2, Judged.ofParsed]
  | enum a next => simp [judgeKind, Packet.kind, Packet.attrs, Packet.payload, parseEnum, Judged.ofParsed]
  | linkNotice a o c n =>
    simp [judgeKind, Packet.kind, Packet.attrs, Packet.payload, parseLinkNotice, Judged.ofParsed]

/-- The words of a packet: its payload and three more. -/
theorem Packet.words_length (p : Packet) : p.words.length = p.payload.length + 3 := by
  simp [Packet.words]

/-- R106: the code and parameters of a command are read back as that command. -/
theorem Command.parse_code (c : Command) (h : c.wf = true) : Command.parse c.code c.params = some c := by
  cases c with
  | writeTable table start values =>
    have hv : 1 ≤ values.length ∧ values.length ≤ Config.maxWrite := by simpa [Command.wf] using h
    simp [Command.parse, Command.code, Command.params, parseWriteTable, hv]
  | _ => rfl

theorem Command.params_length (c : Command) (h : c.wf = true) : c.params.length ≤ Config.maxParams := by
  cases c with
  | writeTable table start values =>
    have hv : 1 ≤ values.length ∧ values.length ≤ 256 := by simpa [Command.wf, Config.maxWrite] using h
    simp [Command.params, Config.maxParams]; omega
  | _ => simp [Command.params, Config.maxParams]

theorem commandPacket_wf (h : Header) (c : Command) (hh : h.wf = true) (hc : c.wf = true) :
    (commandPacket h c).wf = true := by
  simp [commandPacket, Packet.wf, hh, c.params_length hc]

end Sys2Proof
end

