-- ==== Sys2Proof/Laws/Packets.lean ====
section
/-! SUPPORT. The way of a packet through the node, said once: every packet row is its words received, and what receiving
a run of words is in each condition of the pin, the link, an awaited RESET NODE and the send queue. -/

namespace Sys2Proof.Machine

/-- Every packet row is its words received. -/
theorem exec_words {i : Instr} {ws : List Word} (h : i.words = some ws) (s : State) :
    exec i s = .next (s.receive ws) := by
  cases i <;> simp only [Instr.words, Option.some.injEq, reduceCtorEq] at h <;> subst h <;> rfl

theorem receive_pin {s : State} (h : s.resetPin = true) (ws : List Word) : s.receive ws = s.emit (.packet ws) := by
  simp [State.receive, h]

theorem receive_unlocked {s : State} (h : s.resetPin = false) (hl : s.ring.link = .unlocked)
    (hs : s.ring.standing = false) (ws : List Word) : s.receive ws = s := by
  simp [State.receive, h, hl, hs]

/-- R146, R149: where a LINK NOTICE of the node's own is placed. -/
theorem placeOwn_eq (r : Ring) (words : List Word) : r.placeOwn words = r.withNotice words := by
  unfold Ring.placeOwn Ring.withNotice
  cases r.held <;> rfl

/-- The notice placed last is the one taken back. -/
theorem takeBack_eq_some (r r' : Ring) (words : List Word) :
    r.takeBack = some (r', words) ↔ r = r'.withNotice words := by
  unfold Ring.takeBack
  constructor
  · intro h
    split at h
    · next hh hq =>
      have hh := List.reverse_eq_nil_iff.mp hh
      have hq := List.reverse_eq_cons_iff.mp hq
      obtain ⟨rfl, rfl⟩ := Prod.mk.inj (Option.some.inj h)
      rw [Ring.withNotice, if_pos hh]
      exact congrArg (fun q => { r with sendQueue := q }) hq
    · next hh =>
      have hh := List.reverse_eq_cons_iff.mp hh
      obtain ⟨rfl, rfl⟩ := Prod.mk.inj (Option.some.inj h)
      rw [Ring.withNotice, if_neg (fun e => by simp at e)]
      exact congrArg (fun q => { r with held := q }) hh
    · cases h
  · rintro rfl
    unfold Ring.withNotice
    by_cases hh : r'.held = []
    · rw [if_pos hh, hh, List.reverse_append, List.reverse_singleton, List.singleton_append]
      exact congrArg (fun q => some ({ r' with held := [], sendQueue := q }, words)) (List.reverse_reverse _) |>.trans
        (by rw [← hh])
    · obtain ⟨x, xs, e⟩ := List.exists_cons_of_ne_nil (fun e => hh (List.reverse_eq_nil_iff.mp e))
      have hx : (x :: xs).reverse = r'.held := by rw [← e, List.reverse_reverse]
      rw [if_neg hh, List.reverse_append, List.reverse_singleton, List.singleton_append, e]
      exact congrArg (fun q => some ({ r' with held := q }, words)) hx

/-- R146: the packet that stood received whole at the loss. -/
theorem receive_standing {s : State} {r : Ring} {notice ws : List Word} (h : s.resetPin = false)
    (hr : s.ring = r.withNotice notice) (hl : r.link = .unlocked) (hs : r.standing = true) (hw : ws.length ≤ 1027) :
    s.receive ws =
      (let t := State.takeRun { s with ring := { r with link := .locked, standing := false } } ws
       State.placeOwn { t with ring := { t.ring with link := .unlocked } } notice) := by
  have e : s.ring.link = .unlocked ∧ s.ring.standing = true := by
    rw [hr, Ring.withNotice]
    split <;> exact ⟨hl, hs⟩
  have : ws.length ≤ Config.maxPacket := hw
  simp [State.receive, h, e, this, State.takeStanding, (takeBack_eq_some _ _ _).mpr hr]

/-- A run of words received while LOCKED. -/
theorem receive_locked {s : State} (h : s.resetPin = false) (hl : s.ring.link = .locked) (ws : List Word) :
    s.receive ws = s.takeRun ws := by
  simp [State.receive, h, hl]

/-- The state in which a packet is handled: the holding buffer has no partial packet. -/
theorem takeRun_whole {ws : List Word} (hw : ws.length ≤ 1027) (s : State) :
    s.takeRun ws = State.takeWhole { s with ring := { s.ring with arriving := [] } } ws := by
  have : ¬ Config.maxPacket < ws.length := Nat.not_lt.mpr hw
  simp [State.takeRun, this]

/-- R150: a run that the holding buffer does not hold. -/
theorem takeRun_long {ws : List Word} (hw : 1027 < ws.length) (s : State) :
    s.takeRun ws = State.passThrough { s with ring := { s.ring with arriving := [] } } ws := by
  have : Config.maxPacket < ws.length := hw
  simp [State.takeRun, this]

/-- Such a run where no answer to a RESET NODE waits: what waits leaves, then the run, counted once. -/
theorem passThrough_eq {s : State} (hr : s.ring.resetPhase = .idle)
    (hq : s.ring.sendQueue.any SendEntry.resets = false) (ws : List Word) :
    s.passThrough ws = (s.sendAll.countDamaged).emit (.packet ws) := by
  have h : s.sendAll.ring.resetPhase ≠ .due := by simp [State.sendAll, hr, hq]
  simp [State.passThrough, State.clearTheWay, h]

theorem receive_awaiting {s : State} (h : s.resetPin = false) (hl : s.ring.link = .locked)
    (hr : s.ring.resetPhase ≠ .idle) {ws : List Word} (hw : ws.length ≤ 1027) :
    s.receive ws = { s with ring := { s.ring with arriving := [], held := s.ring.held ++ [.packet ws] } } := by
  rw [receive_locked h hl, takeRun_whole hw]
  simp [State.takeWhole, hr]

theorem receive_overrun {s : State} (h : s.resetPin = false) (hl : s.ring.link = .locked)
    (hr : s.ring.resetPhase = .idle) (ho : 3069 < forwardedWords s.ring.sendQueue) {ws : List Word}
    (hw : ws.length ≤ 1027) :
    s.receive ws = State.overrun { s with ring := { s.ring with arriving := [] } } ws := by
  rw [receive_locked h hl, takeRun_whole hw]
  have : Config.overrunLimit < forwardedWords s.ring.sendQueue := ho
  simp [State.takeWhole, hr, State.handle, this]

/-- R150 to R155: what a node that takes packets in does with a run of words. -/
theorem receive_receiving {s : State} (h : Receiving s) {ws : List Word} (hw : ws.length ≤ 1027) :
    s.receive ws =
      match judge ws with
      | .damaged => (State.countDamaged { s with ring := { s.ring with arriving := [] } }).forward ws
      | .unknown => (State.countUnknown { s with ring := { s.ring with arriving := [] } }).forward ws
      | .wellFormed p => State.takeWellFormed { s with ring := { s.ring with arriving := [] } } ws p := by
  obtain ⟨hp, hl, hr, ho⟩ := h
  rw [receive_locked hp hl, takeRun_whole hw]
  have : ¬ Config.overrunLimit < forwardedWords s.ring.sendQueue := Nat.not_lt.mpr ho
  unfold State.takeWhole State.handle
  exact (if_pos hr).trans ((if_neg this).trans (by cases judge ws <;> rfl))

/-- A well-formed packet fits the holding buffer. -/
theorem words_length_le {p : Packet} (hp : p.wf = true) : p.words.length ≤ 1027 := by
  have h := p.words_length
  have := p.payload_length hp
  simp only [Config.maxPayload] at this
  omega

/-- A well-formed packet goes to the blocks of its kind. -/
theorem receive_words {s : State} (h : Receiving s) {p : Packet} (hp : p.wf = true) :
    s.receive p.words = State.takeWellFormed { s with ring := { s.ring with arriving := [] } } p.words p := by
  rw [receive_receiving h (words_length_le hp), judge_words p hp]

/-- The same, reached by the row of the packet. -/
theorem exec_wellFormed {i : Instr} {p : Packet} {s : State} (hi : i.words = some p.words) (h : Receiving s)
    (hp : p.wf = true) :
    exec i s = .next (State.takeWellFormed { s with ring := { s.ring with arriving := [] } } p.words p) := by
  rw [exec_words hi, receive_words h hp]

end Sys2Proof.Machine
end

