-- ==== Sys2Proof/Laws/Commands.lean ====
section
/-! SUPPORT. The way of a command through the node, said once: which CONTROL packets come to their own stages, and what
each outcome of those stages leaves. -/

namespace Sys2Proof.Machine

theorem isMulticast_iff (m : Word) : isMulticast m = true ↔ m = 3#16 ∨ m = 4#16 := by
  simp [isMulticast]

theorem isMulticast_false_iff (m : Word) : isMulticast m = false ↔ ¬ (m = 3#16 ∨ m = 4#16) := by
  rw [← isMulticast_iff]; simp

theorem toNat_eq_iff (m : Word) (n : Nat) (h : n < 65536) : m.toNat = n ↔ m = BitVec.ofNat 16 n := by
  constructor
  · intro e; apply BitVec.eq_of_toNat_eq; simp [e]; omega
  · intro e; subst e; simp; omega

/-- R138: the address test is Table 8-3. -/
theorem concerned_iff (id : Identity) (h : Header) : id.concerned h.mode h.value = true ↔ AddressedTo id h := by
  unfold Identity.concerned AddressedTo
  split
  · next e => rw [toNat_eq_iff _ _ (by decide)] at e; simp [e, Option.any_eq_true]
  · next e => rw [toNat_eq_iff _ _ (by decide)] at e; simp [e, Option.any_eq_true]
  · next e => rw [toNat_eq_iff _ _ (by decide)] at e; simp [e, inGroup]
  · next e => rw [toNat_eq_iff _ _ (by decide)] at e; simp [e]
  · next e1 e2 e3 e4 =>
    have f (n : Nat) (hn : n < 65536) (e : h.mode.toNat ≠ n) : h.mode ≠ BitVec.ofNat 16 n :=
      fun c => e ((toNat_eq_iff _ _ hn).mpr c)
    have := f 1 (by decide) e1
    have := f 2 (by decide) e2
    have := f 3 (by decide) e3
    have := f 4 (by decide) e4
    simp_all

/-- R139: the scope test is Table 8-4. -/
theorem inScope_iff (id : Identity) (mode value : Word) : id.inScope mode value = true ↔ InScope id mode value := by
  unfold Identity.inScope InScope
  split
  · next e => rw [toNat_eq_iff _ _ (by decide)] at e; simp [e, Option.any_eq_true]
  · next e => rw [toNat_eq_iff _ _ (by decide)] at e; simp [e, inGroup]
  · next e => rw [toNat_eq_iff _ _ (by decide)] at e; simp [e]
  · next e1 e2 e3 =>
    have f (n : Nat) (hn : n < 65536) (e : mode.toNat ≠ n) : mode ≠ BitVec.ofNat 16 n :=
      fun c => e ((toNat_eq_iff _ _ hn).mpr c)
    have := f 1 (by decide) e1
    have := f 3 (by decide) e2
    have := f 4 (by decide) e3
    simp_all

theorem sequenceAndCode_eq (h : Header) (code : Word) :
    sequenceAndCode (sequenceOf h.sequence) code = openingWord h (code.toNat % 256) := by
  simp [sequenceAndCode, openingWord, sequenceOf, Nat.mul_comm]

/-- A CONTROL packet that concerns the node goes through the Command Unit (R101). -/
theorem exec_control {i : Instr} {h : Header} {code : Word} {params : List Word} {s : State} (hr : Receiving s)
    (hw : h.wf = true) (hp : params.length ≤ 1000) (ha : AddressedTo s.address h)
    (hi : i.words = some (Packet.control h code params).words) :
    exec i s = .next
      (let u : State := { s with ring := { s.ring with arriving := [] } }
       let outcome := u.commandUnit h code params
       outcome.1.enqueue
        ⟨(Packet.control outcome.2 code params).words, false, outcome.1.ring.resetPhase == .answered⟩) := by
  have hwf : (Packet.control h code params).wf = true := by
    have : params.length ≤ Config.maxParams := hp
    simp [Packet.wf, hw, this]
  rw [exec_wellFormed hi hr hwf]
  have := (concerned_iff s.address h).mpr ha
  simp [State.takeWellFormed, State.takeControl, this]

/-- What stages 3 to 6 decide does not depend on the ring. -/
theorem lateStages_ring (s : State) (r : Ring) (mode code : Word) (params : List Word) :
    ({ s with ring := r } : State).lateStages mode code params = s.lateStages mode code params := rfl

/-- The sequence stage passes, or the packet is no multicast duplicate: the packet comes to its command's stages. -/
theorem commandUnit_passes {s : State} {h : Header} {code : Word} {params : List Word}
    (hs : SequencePasses s.commands h) :
    s.commandUnit h code params =
      match s.lateStages h.mode code params with
      | .refused d => (s.afterRefusal code params, refusedHeader h s.address.position (dispositionCode d))
      | .accepted c =>
        (if isMulticast h.mode then s.acceptMulticast (sequenceOf h.sequence) code c
          else s.acceptUnicast (sequenceOf h.sequence) code c, acceptedHeader h) := by
  unfold SequencePasses at hs
  cases hm : isMulticast h.mode
  · have hn := (isMulticast_false_iff _).mp hm
    rw [if_neg hn] at hs
    obtain ⟨hd, hq⟩ := hs
    have hst : sequenceStage s.commands.unicastLast (resync h.attrs) (sequenceOf h.sequence) = .passes := by
      unfold sequenceStage resync sequenceOf
      rcases hq with hq | hq | ⟨l, hl, hq⟩
      · simp [hq]
      · simp [hq]
      · simp [hl, hq]
    simp only [State.commandUnit, hm, State.unicast, hd, hst]
    cases hv : s.lateStages h.mode code params <;>
      simp [refusedHeader, acceptedHeader, hn, dispositionCode]
  · have hn := (isMulticast_iff _).mp hm
    rw [if_pos hn] at hs
    have hdup : isMulticastDuplicate s.commands.multicastLast (resync h.attrs) (sequenceOf h.sequence) = false := by
      unfold isMulticastDuplicate resync sequenceOf
      rcases hs with hs | hs
      · simp [hs]
      · simp [hs]
    simp only [State.commandUnit, hm, State.multicast, hdup]
    cases hv : s.lateStages h.mode code params <;>
      simp [countMulticast, refusedHeader, acceptedHeader, hn]
    cases s.address.position <;> rfl

/-- A packet refused at a late stage: the packet sent on with the refusal in it. -/
theorem exec_refused {i : Instr} {h : Header} {code : Word} {params : List Word} {s : State} {d : Disposition}
    (ho : Offered s h) (hp : params.length ≤ 1000) (hi : i.words = some (Packet.control h code params).words)
    (hv : s.lateStages h.mode code params = .refused d) :
    exec i s = .next (refusal (s.afterRefusal code params) h code params (dispositionCode d)) := by
  obtain ⟨hr, hw, ha, hs⟩ := ho
  rw [exec_control hr hw hp ha hi]
  have hv' : ({ s with ring := { s.ring with arriving := [] } } : State).lateStages h.mode code params = .refused d := hv
  simp only [commandUnit_passes (s := { s with ring := { s.ring with arriving := [] } }) hs, hv']
  have hpos : (s.afterRefusal code params).address = s.address := by
    unfold State.afterRefusal; split
    · split <;> simp
    · rfl
  have hring : (s.afterRefusal code params).ring = s.ring := by
    unfold State.afterRefusal; split
    · split <;> simp
    · rfl
  have hu : State.afterRefusal { s with ring := { s.ring with arriving := [] } } code params =
      { s.afterRefusal code params with ring := { s.ring with arriving := [] } } := by
    unfold State.afterRefusal
    split
    · split
      · unfold State.refusedCommit
        split
        · rfl
        · simp only [State.stagedLocked]
          split
          · rfl
          · split
            · rfl
            · split <;> rfl
      · rfl
    · rfl
  rw [hu]
  simp only [refusal, State.sentOn, hpos, hring, State.enqueue, hr.2.2.1]
  rfl

/-- The state in which an accepted command is carried out: its sequence is set, and its packet has left the holding
buffer. -/
def atAcceptance (s : State) (h : Header) : State :=
  { s with commands := s.commands.withSequence h, ring := { s.ring with arriving := [] } }

theorem perform_commands_withSequence (u : State) (w : Word) (c : Command) (h : Header)
    (hu : u.commands.withSequence h = u.commands) :
    (u.perform w c).commands.withSequence h = (u.perform w c).commands := by
  have hc : ∀ k : CommandUnit, k.unicastLast = u.commands.unicastLast → k.multicastLast = u.commands.multicastLast →
      k.withSequence h = k := by
    intro k h1 h2
    unfold CommandUnit.withSequence at hu ⊢
    generalize u.commands = m at hu h1 h2
    obtain ⟨a, b, r, n⟩ := k
    obtain ⟨a', b', r', n'⟩ := m
    split <;> simp_all
  cases c <;> simp only [State.perform] <;> first | exact hu | (simp; exact hu) | skip
  exact hc _ rfl rfl

theorem perform_resetPhase (u : State) (w : Word) (c : Command) (hu : u.ring.resetPhase = .idle) :
    ((u.perform w c).ring.resetPhase == .answered) = (c == .resetNode) := by
  cases c <;> simp [State.perform, hu, State.clearCounters, State.answerResetNode]

theorem withSequence_twice (k : CommandUnit) (h : Header) : (k.withSequence h).withSequence h = k.withSequence h := by
  unfold CommandUnit.withSequence
  split <;> rfl

/-- What an acceptance adds is added once. -/
theorem acceptance_atAcceptance (s : State) (h : Header) (c : Command) (r : Option Record) :
    acceptance (atAcceptance s h) h c r = acceptance s h c r := by
  simp only [acceptance, atAcceptance, withSequence_twice]

/-- R23, R77: the commit application in one record. -/
theorem applyCommit_eq (s : State) : s.applyCommit = afterCommit s := by
  unfold State.applyCommit afterCommit State.thermalAtCommit State.bandAtCommit
  have hb : isDirty s.banks.dirty .bands = s.banks.dirty.getLsbD 3 := rfl
  dsimp only
  rw [hb]
  cases hd : s.banks.dirty.getLsbD 3
  · simp [State.raise, dirtyWord]
  · cases hs : s.thermal.sensor <;> cases ht : s.thermal.reading <;> dsimp only <;>
      simp only [ite_true, true_and, ne_eq, ite_not] <;> split <;> rfl

/-- R75: the pending band's application in one record. -/
theorem applyPending_eq (s : State) : s.applyPending = afterBand s := by
  unfold State.applyPending afterBand
  cases s.thermal.pending <;> rfl

/-- A command's effect on the state of its acceptance is its effect on the state before, at its acceptance. -/
theorem perform_atAcceptance (s : State) (h : Header) (w : Word) (c : Command) :
    (atAcceptance s h).perform w c = atAcceptance (s.perform w c) h := by
  cases c with
  | setIdentity l g =>
    simp only [State.perform, State.setIdentity]
    cases logicalIdOf l <;> rfl
  | writeTable t st vs =>
    simp only [State.perform, State.writeTable]
    cases tableOf t <;> rfl
  | commit k f =>
    simp only [State.perform, State.acceptCommit]
    cases targetKindOf k with
    | none => rfl
    | some kk =>
      cases kk <;> try rfl
      simp only [applyCommit_eq]
      rfl
  | setState t p r g b =>
    simp only [State.perform, State.setState]
    cases targetStateOf t with
    | none => rfl
    | some n =>
      simp only [State.changePresentation]
      have hn : (atAcceptance s h).node = s.node := rfl
      rw [hn]
      cases s.node <;> cases n <;> rfl
  | setNotices m =>
    simp only [State.perform, State.setNotices]
    cases maskOf m <;> rfl
  | clearCounters =>
    simp only [State.perform, State.clearCounters, atAcceptance, CommandUnit.withSequence]
    split <;> rfl
  | _ => rfl
/-- R106 to R108: what a command must meet to pass its stages. -/
theorem lateStages_accepted {s : State} {mode : Word} {c : Command} (hp : Command.parse c.code c.params = some c)
    (ha : availableIn c s.node = true) (ho : s.ownerCheck mode c = none)
    (hn : needsEntry c = true → s.queue.entries.length < 12) :
    s.lateStages mode c.code c.params = .accepted c := by
  unfold State.lateStages
  rw [hp]
  simp only [ha, ho]
  cases h : needsEntry c <;> simp [h] at hn ⊢
  simp [hasFreeEntry, hn]

/-- R107: a command the node state does not take. -/
theorem lateStages_unavailable {s : State} {mode : Word} {c : Command} (hp : Command.parse c.code c.params = some c)
    (ha : availableIn c s.node = false) : s.lateStages mode c.code c.params = .refused .state := by
  unfold State.lateStages
  rw [hp]
  simp only [ha]
  simp

/-- R108: a command its owner refuses. -/
theorem lateStages_checked {s : State} {mode : Word} {c : Command} {d : Disposition}
    (hp : Command.parse c.code c.params = some c) (ha : availableIn c s.node = true)
    (ho : s.ownerCheck mode c = some d) : s.lateStages mode c.code c.params = .refused d := by
  unfold State.lateStages
  rw [hp]
  simp only [ha, ho]
  simp

/-- R108: a command that needs an entry and finds none free. -/
theorem lateStages_noEntry {s : State} {mode : Word} {c : Command} (hp : Command.parse c.code c.params = some c)
    (ha : availableIn c s.node = true) (ho : s.ownerCheck mode c = none) (hn : needsEntry c = true)
    (hq : 12 ≤ s.queue.entries.length) : s.lateStages mode c.code c.params = .refused .busy := by
  unfold State.lateStages
  rw [hp]
  have : ¬ s.queue.entries.length < 12 := Nat.not_lt.mpr hq
  simp [ha, ho, hn, hasFreeEntry, this]

/-- R109, R111: a command that passes its stages: what its effect leaves, with what every acceptance adds. -/
theorem exec_accepted {i : Instr} {h : Header} {c : Command} {s : State} (ho : Offered s h) (hc : c.wf = true)
    (hi : i.words = some (commandPacket h c).words) (hv : s.lateStages h.mode c.code c.params = .accepted c) :
    exec i s = .next
      (acceptance (s.perform (openingWord h (c.code.toNat % 256)) c) h c
        ((atAcceptance s h).replyTo (openingWord h (c.code.toNat % 256)) c)) := by
  rw [← acceptance_atAcceptance, ← perform_atAcceptance]
  obtain ⟨hr, hw, ha, hs⟩ := ho
  have hlen : c.params.length ≤ 1000 := c.params_length hc
  rw [exec_control hr hw hlen ha hi]
  have hv' : ({ s with ring := { s.ring with arriving := [] } } : State).lateStages h.mode c.code c.params =
      .accepted c := hv
  simp only [commandUnit_passes (s := { s with ring := { s.ring with arriving := [] } }) hs, hv']
  generalize hw' : openingWord h (c.code.toNat % 256) = w
  have hphase : (atAcceptance s h).ring.resetPhase = .idle := hr.2.2.1
  have hsq : (atAcceptance s h).commands.withSequence h = (atAcceptance s h).commands := by
    unfold atAcceptance CommandUnit.withSequence
    dsimp only
    split <;> rfl
  have hp1 := perform_commands_withSequence _ w c h hsq
  have hp2 := perform_resetPhase _ w c hphase
  have harr : ((atAcceptance s h).perform w c).ring.arriving = [] := by
    cases c <;> simp [State.perform] <;> rfl
  generalize hrep : (atAcceptance s h).replyTo w c = reply
  congr 1
  cases hm : isMulticast h.mode
  · have hn := (isMulticast_false_iff _).mp hm
    have he : ({ s with ring := { s.ring with arriving := [] } } : State).acceptUnicast (sequenceOf h.sequence) c.code c =
        { (((atAcceptance s h).perform w c).appendReply reply) with
          commands := { (((atAcceptance s h).perform w c).appendReply reply).commands with replayCache := reply } } := by
      simp only [State.acceptUnicast, sequenceAndCode_eq, hw', State.carryOut]
      have : ({ s with
            ring := { s.ring with arriving := [] }
            commands := { s.commands with unicastLast := some (sequenceOf h.sequence) } } : State) =
          atAcceptance s h := by
        simp [atAcceptance, CommandUnit.withSequence, hn, sequenceOf]
      simp only [this, hrep]
    simp only [he, acceptance, if_neg hn, hp1, State.enqueue]
    generalize (atAcceptance s h).perform w c = v at *
    cases reply <;> simp [State.appendReply, ReplyQueue.append, hp2, harr]
  · have hn := (isMulticast_iff _).mp hm
    have he : ({ s with ring := { s.ring with arriving := [] } } : State).acceptMulticast (sequenceOf h.sequence) c.code c =
        ((atAcceptance s h).perform w c).appendReply reply := by
      simp only [State.acceptMulticast, sequenceAndCode_eq, hw', State.carryOut]
      have : ({ s with
            ring := { s.ring with arriving := [] }
            commands := { s.commands with multicastLast := some (sequenceOf h.sequence) } } : State) =
          atAcceptance s h := by
        simp [atAcceptance, CommandUnit.withSequence, hn, sequenceOf]
      simp only [this, hrep]
    simp only [he, acceptance, if_pos hn, hp1, State.enqueue]
    generalize (atAcceptance s h).perform w c = v at *
    cases reply <;> simp [State.appendReply, ReplyQueue.append, hp2, harr]

end Sys2Proof.Machine
end

