-- ==== Sys2Proof/Laws/Blocks.lean ====
section
/-! SUPPORT. What the blocks' shared operations do, said once for each: the locks and codes that checks ask for, the runs
of table entries, the placement of bands, the Reply Queue's operations, and the Table Banks' part of a SHOW. -/

namespace Sys2Proof.Machine

/-! ### Locks and codes -/

/-- R10: the staged bank is locked. -/
theorem stagedLocked_iff (s : State) : s.stagedLocked = true ↔ StagedLocked s := by
  unfold State.stagedLocked StagedLocked
  cases s.banks.commit <;> cases s.store.unit <;> simp [CommitState.outstanding, StoreUnit.isReading]

theorem stagedLocked_false {s : State} (h : ¬ StagedLocked s) : s.stagedLocked = false := by
  rw [Bool.eq_false_iff]
  exact fun e => h ((stagedLocked_iff s).mp e)

theorem isStoring_iff (u : StoreUnit) :
    u.isStoring = true ↔ ∃ phase target generation, u = .storing phase target generation := by
  cases u <;> simp [StoreUnit.isStoring]

theorem tableOf_tableCode (t : TableName) : tableOf (tableCode t) = some t := by cases t <;> rfl

/-- R107: outside LOADING every command but COMMIT is taken. -/
theorem availableIn_of_ne_loading {c : Command} {n : NodeState} (hn : n ≠ .loading)
    (h : ∀ kind frame, c ≠ .commit kind frame) : availableIn c n = true := by
  cases n <;> cases c <;> simp_all [availableIn]

/-- R82: the newest valid image of two records. -/
theorem newestOf_eq (a b : ImageRecord) :
    newestOf a b =
      match a, b with
      | .valid a, .valid b => if b.toNat ≤ a.toNat then some (.image0, a) else some (.image1, b)
      | .valid a, _ => some (.image0, a)
      | _, .valid b => some (.image1, b)
      | _, _ => none := by
  cases a <;> cases b <;> simp [newestOf]
  split <;> split <;> simp_all
  omega

/-- R81: an image that holds a whole set of valid tables, with its check word, is VALID. -/
theorem judged_written {g : BitVec 32} {tables : Bank} (h : 1 ≤ g.toNat) (hs : tables.shaped = true)
    (hv : validate tables = none) : (Image.written g tables (imageCheck g tables)).judged = .valid g := by
  simp [Image.judged, h, hs, hv]

/-! ### Runs of table entries -/

/-- R2: the range test is Tables 1-1 to 1-5. -/
theorem inRange_iff (t : TableName) (i : Nat) (w : Word) : inRange t i w = true ↔ EntryInRange t i w := by
  have u (lo hi : Nat) : unsignedIn lo hi w = true ↔ lo ≤ w.toNat ∧ w.toNat ≤ hi := by simp [unsignedIn]
  have g : signedIn (-80) 250 w = true ↔ -80 ≤ w.toInt ∧ w.toInt ≤ 250 := by simp [signedIn]
  unfold inRange
  rw [Bool.and_eq_true, decide_eq_true_eq]
  cases t <;> dsimp only [EntryInRange, TableName.entries]
  · simp
  · rw [u]; omega
  · unfold profileRange; split <;> rw [u] <;> omega
  · unfold bandsRange; repeat' split
    all_goals first | rw [u] | rw [g]
    all_goals omega
  · unfold windowRange; split <;> rw [u] <;> omega
  · unfold timingRange; repeat' split
    all_goals rw [u]
    all_goals omega

/-- R2, R12: a run is in range where each of its values is. -/
theorem rangeFailure_isNone_iff (t : TableName) : ∀ (values : List Word) (start : Nat),
    (rangeFailure t start values).isNone = true ↔
      ∀ j, (hj : j < values.length) → inRange t (start + j) values[j] = true := by
  intro values
  induction values with
  | nil => intro start; simp [rangeFailure]
  | cons v vs ih =>
    intro start
    unfold rangeFailure
    by_cases h : inRange t start v = true
    · simp only [h, if_true]
      rw [ih]
      constructor
      · intro hh j hj
        cases j with
        | zero => simpa using h
        | succ j =>
          have := hh j (by simpa using hj)
          simpa [Nat.add_assoc, Nat.add_comm 1 j] using this
      · intro hh j hj
        have := hh (j + 1) (by simpa using hj)
        simpa [Nat.add_assoc, Nat.add_comm 1 j] using this
    · simp only [h]
      simp
      exact ⟨0, by simp, by simpa using h⟩

/-- R12: the entries after a run has been written. -/
theorem writeRun_eq : ∀ (values entries : List Word) (start : Nat),
    writeRun entries start values =
      (List.range entries.length).map fun i =>
        if start ≤ i ∧ i < start + values.length then values.getD (i - start) 0 else entries.getD i 0 := by
  intro values
  induction values with
  | nil =>
    intro entries start
    simp [writeRun]
    apply List.ext_getElem
    · simp
    · intro k h1 h2
      have : ¬ (start ≤ k ∧ k < start) := by omega
      simp [this, List.getElem?_eq_getElem h1]
  | cons v vs ih =>
    intro entries start
    unfold writeRun
    rw [ih]
    simp only [List.length_set, List.length_cons, List.map_inj_left, List.mem_range, List.getD_eq_getElem?_getD]
    intro k hk
    by_cases h : k = start
    · subst h
      simp [hk]
    · by_cases h1 : start + 1 ≤ k ∧ k < start + 1 + vs.length
      · have h2 : start ≤ k ∧ k < start + (vs.length + 1) := by omega
        rw [if_pos h1, if_pos h2]
        have : k - start = (k - (start + 1)) + 1 := by omega
        rw [this]
        simp
      · have h2 : ¬ (start ≤ k ∧ k < start + (vs.length + 1)) := by omega
        rw [if_neg h1, if_neg h2]
        simp [Ne.symm h]

/-- R13: the entries a READ TABLE reports. -/
theorem readRun_eq (entries : List Word) (start count : Nat) (h : start + count ≤ entries.length) :
    readRun entries start count = (List.range count).map fun j => entries.getD (start + j) 0 := by
  unfold readRun
  apply List.ext_getElem
  · simp
    omega
  · intro k h1 h2
    simp at h1 h2
    simp
    rw [List.getElem?_eq_getElem (by omega)]
    simp

/-! ### Placement of bands -/

/-- R73: the band a fresh placement finds. -/
theorem placeFreshFrom_spec (tables : Bank) (t : Int) : ∀ n,
    placeFreshFrom tables t n ≤ n ∧
      (1 ≤ placeFreshFrom tables t n → tables.threshold (placeFreshFrom tables t n) ≤ t) ∧
      ∀ c, placeFreshFrom tables t n < c → c ≤ n → t < tables.threshold c := by
  intro n
  induction n with
  | zero =>
    simp only [placeFreshFrom]
    exact ⟨Nat.le_refl _, fun h => absurd h (by decide), fun c h1 h2 => by omega⟩
  | succ n ih =>
    unfold placeFreshFrom
    split
    · rename_i h
      exact ⟨le_refl _, fun _ => h, fun c h1 h2 => by omega⟩
    · rename_i h
      refine ⟨by omega, ih.2.1, fun c h1 h2 => ?_⟩
      rcases Nat.lt_or_ge c (n + 1) with hc | hc
      · exact ih.2.2 c h1 (by omega)
      · have : c = n + 1 := by omega
        subst this
        omega

/-- R72: the band the up pass reaches. -/
theorem placeUp_spec (tables : Bank) (t : Int) : ∀ fuel b, b < tables.bandCount →
    b ≤ placeUp tables t fuel b ∧ placeUp tables t fuel b < tables.bandCount ∧
      (b < placeUp tables t fuel b → tables.threshold (placeUp tables t fuel b) + tables.hysteresis ≤ t) ∧
      (tables.bandCount ≤ fuel + b → placeUp tables t fuel b + 1 < tables.bandCount →
        t < tables.threshold (placeUp tables t fuel b + 1) + tables.hysteresis) := by
  intro fuel
  induction fuel with
  | zero =>
    intro b h
    simp only [placeUp]
    exact ⟨Nat.le_refl _, h, fun hb => absurd hb (Nat.lt_irrefl _), fun h1 => absurd h (by omega)⟩
  | succ n ih =>
    intro b h
    unfold placeUp
    split
    · rename_i hh
      have hb := ih (b + 1) hh.1
      refine ⟨by omega, hb.2.1, fun _ => ?_, fun h1 h2 => hb.2.2.2 (by omega) h2⟩
      by_cases e : b + 1 < placeUp tables t n (b + 1)
      · exact hb.2.2.1 e
      · have e : placeUp tables t n (b + 1) = b + 1 := by omega
        rw [e]
        exact hh.2
    · rename_i hh
      refine ⟨le_refl _, h, fun h => absurd h (by omega), fun h1 h2 => ?_⟩
      by_contra hc
      exact hh ⟨h2, by omega⟩

/-- R72: the band the down pass reaches. -/
theorem placeDown_spec (tables : Bank) (t : Int) : ∀ b,
    placeDown tables t b ≤ b ∧ (placeDown tables t b < b → t < tables.threshold (placeDown tables t b + 1)) ∧
      (1 ≤ placeDown tables t b → tables.threshold (placeDown tables t b) ≤ t) := by
  intro b
  induction b with
  | zero => simp [placeDown]
  | succ b ih =>
    unfold placeDown
    split
    · rename_i h
      refine ⟨by omega, fun _ => ?_, ih.2.2⟩
      by_cases e : placeDown tables t b < b
      · exact ih.2.1 e
      · have e : placeDown tables t b = b := by omega
        rw [e]
        exact h
    · rename_i h
      exact ⟨le_refl _, fun h => absurd h (by omega), fun _ => by omega⟩

/-! ### The Reply Queue -/

/-- R124, R125: everything an occurrence of a notice kind can do. -/
theorem ReplyQueue.raise_cases (q : ReplyQueue) (id : Identity) (k : NoticeKind) (detail : Option Word) :
    (isEnabled q.mask k = false ∧ q.raise id k detail = q) ∨
      isEnabled q.mask k = true ∧
        ((q.entries.any (Entry.isNoticeOf k) = true ∧
            q.raise id k detail = { q with entries := q.entries.map (countInto k detail) }) ∨
          q.entries.any (Entry.isNoticeOf k) = false ∧
            ((q.backlog.any (fun h => h.kind == k) = true ∧
                q.raise id k detail = { q with backlog := q.backlog.map (countIntoHeld k detail) }) ∨
              q.backlog.any (fun h => h.kind == k) = false ∧
                ((hasNoticeRoom q.entries = true ∧
                    q.raise id k detail =
                      { q with entries := q.entries ++ [.record (id.notice k 1#16 detail)] }) ∨
                  (hasNoticeRoom q.entries = false ∧
                    q.raise id k detail = { q with backlog := q.backlog ++ [⟨k, 1#16, detail⟩] })))) := by
  unfold ReplyQueue.raise
  cases isEnabled q.mask k
  · simp
  · cases q.entries.any (Entry.isNoticeOf k)
    · cases q.backlog.any (fun h => h.kind == k)
      · cases hasNoticeRoom q.entries <;> simp
      · simp
    · simp

theorem hasNoticeRoom_iff (es : List Entry) :
    hasNoticeRoom es = true ↔ es.length < 12 ∧ noticeCount es < 4 := by
  simp [hasNoticeRoom, hasFreeEntry]

theorem noticeCount_append_notice (es : List Entry) (id : Identity) (k : NoticeKind) (count : Word)
    (detail : Option Word) : noticeCount (es ++ [.record (id.notice k count detail)]) = noticeCount es + 1 := by
  simp [noticeCount, Entry.noticeKind, Identity.notice]

/-- R128: admission takes as many held kinds as there is room for. -/
theorem admitHeld_eq (id : Identity) : ∀ (held : List Held) (es : List Entry),
    admitHeld id held es =
      let n := min held.length (min (12 - es.length) (4 - noticeCount es))
      (es ++ (held.take n).map (fun h => .record (id.notice h.kind h.count h.detail)), held.drop n) := by
  intro held
  induction held with
  | nil => intro es; simp [admitHeld]
  | cons h hs ih =>
    intro es
    unfold admitHeld
    by_cases hr : hasNoticeRoom es = true
    · rw [if_pos hr, ih, noticeCount_append_notice]
      obtain ⟨h1, h2⟩ := (hasNoticeRoom_iff es).mp hr
      have e : min (h :: hs).length (min (12 - es.length) (4 - noticeCount es)) =
          min hs.length (min (12 - (es.length + 1)) (4 - (noticeCount es + 1))) + 1 := by
        simp only [List.length_cons]
        omega
      dsimp only
      rw [e]
      simp only [List.length_append, List.length_cons, List.length_nil, Nat.zero_add, List.take_succ_cons,
        List.map_cons, List.drop_succ_cons, List.append_assoc, List.cons_append, List.nil_append]
    · rw [if_neg hr]
      have : ¬ (es.length < 12 ∧ noticeCount es < 4) := fun c => hr ((hasNoticeRoom_iff es).mpr c)
      have e : min (h :: hs).length (min (12 - es.length) (4 - noticeCount es)) = 0 := by omega
      simp only [e, List.take_zero, List.map_nil, List.append_nil, List.drop_zero]

/-- R131: what one turn of a drain does. -/
theorem drainWith_cases (id : Identity) (fuel room : Nat) (q : ReplyQueue) :
    (∃ r rest, q.entries = .record r :: rest ∧ r.words.length ≤ room ∧
        drainWith id (fuel + 1) room q =
          let next := drainWith id fuel (room - r.words.length)
            { q with entries := (admitHeld id q.backlog rest).1, backlog := (admitHeld id q.backlog rest).2 }
          (next.1, r.words ++ next.2)) ∨
      (drainWith id (fuel + 1) room q = (q, []) ∧
        ∀ r rest, q.entries = .record r :: rest → ¬ r.words.length ≤ room) := by
  rw [drainWith]
  rcases he : q.entries with _ | ⟨_ | ⟨w, p, l⟩, rest⟩
  · exact .inr ⟨rfl, fun _ _ h => by cases h⟩
  · rename_i r
    by_cases h : r.words.length ≤ room
    · refine .inl ⟨r, rest, rfl, h, ?_⟩
      simp only [h, if_true]
    · refine .inr ⟨?_, fun r' rest' e => by cases e; exact h⟩
      simp only [h, if_false]
  · exact .inr ⟨rfl, fun _ _ h => by cases h⟩

/-- R122: a completion changes no entry's place, and no notice. -/
theorem ReplyQueue.complete_entries (q : ReplyQueue) (kind : ReplyKind) (result : List Word) :
    (q.complete kind result).entries.length = q.entries.length ∧
      (q.complete kind result).entries.map Entry.noticeKind = q.entries.map Entry.noticeKind ∧
      reservationCount (q.complete kind result).entries = 0 ∧ (q.complete kind result).backlog = q.backlog ∧
      (q.complete kind result).mask = q.mask := by
  refine ⟨by simp [ReplyQueue.complete], ?_, ?_, rfl, rfl⟩
  · simp only [ReplyQueue.complete, List.map_map]
    apply List.map_congr_left
    intro e _
    cases e <;> rfl
  · simp only [ReplyQueue.complete, reservationCount, List.countP_map, List.countP_eq_zero]
    intro e _
    cases e <;> simp [completeEntry, Entry.isReservation]

/-! ### A SHOW at the Table Banks, and a measurement's band -/

/-- R24, Table 1-8: the Table Banks' part of a SHOW. -/
theorem commitAtShow_eq (s : State) (k : Word) : s.commitAtShow k = afterCommitTest s k := by
  unfold State.commitAtShow afterCommitTest afterDue
  rcases h : s.banks.commit with _ | (_ | f) | (_ | f)
  · rfl
  · simp only [CommitTarget.due, if_true, applyCommit_eq]
  · simp only [CommitTarget.due, isDue, decide_eq_true_eq, applyCommit_eq]
  · simp only [applyCommit_eq]
    split
    · rw [← h]
    · rfl
  · simp only [applyCommit_eq]
    split
    · rw [← h]
    · rfl

/-- R70, R71, R74, R75: a placed band, applied at once or left pending. -/
theorem setPlaced_applyAtMeasurement (s : State) (b : Nat) :
    (s.setPlaced b).applyAtMeasurement =
      { s with
        thermal :=
          { s.thermal with
            applied := if s.appliesAtOnce then b else s.thermal.applied
            pending := if s.appliesAtOnce ∨ b = s.thermal.applied then none else some b }
        queue :=
          if s.appliesAtOnce ∧ b ≠ s.thermal.applied then
            s.queue.raise s.address .bandChanged (some (BitVec.ofNat 16 b))
          else s.queue } := by
  have h : (s.setPlaced b).appliesAtOnce = s.appliesAtOnce := rfl
  unfold State.applyAtMeasurement
  rw [h]
  cases s.appliesAtOnce <;> by_cases hb : b = s.thermal.applied <;>
    simp [applyPending_eq, afterBand, State.setPlaced, hb]

end Sys2Proof.Machine
end

