-- ==== Sys2Proof/Tests/Slice0.lean ====
section
/-! SUPPORT. Tests of the model against the manual's own examples and tables, a refused ill-formed term for each check
of well-formedness, and for each statement with hypotheses a state and operands that meet them (`witness_` and the
statement's name). Expected values come from the manual, or by hand from its rules, as each comment says. -/

namespace Sys2Proof.Tests

open Sys2Proof.Machine

-- One theorem after another: elaborated side by side, those below would each hold a thread and its stack.
set_option Elab.async false

/-! ### States and headers -/

/-- The state a command leaves. -/
def after (i : Instr) (s : State) : State :=
  match exec i s with
  | .next t => t
  | .fault _ => s
  | .refused _ => s

/-- A node at position 5, logical id 700, groups 1 and 2, LOCKED and STANDBY, with no valid image, its last sequences 41
and 6. -/
def standbyNode : State :=
  { State.reset with
    ring := { resetRing with link := .locked }
    address := ⟨some 5, some 700, 0b110#16⟩
    commands := ⟨some 41#8, some 6#8, none, 0⟩
    store :=
      { resetStore .unwritten .unwritten with
        record0 := .invalid, record1 := .invalid, unit := .idle, defaultsInUse := true }
    thermal := { resetThermal with sampleTimer := some 100 }
    node := .standby }

/-- The same node ACTIVE, the presentation state LIVE. -/
def activeNode : State :=
  { standbyNode with node := .active, frames := { resetFrames with holdTimer := some 200 } }

/-- The same node showing a test pattern. -/
def testNode : State :=
  { activeNode with node := .test, scan := { resetScan with source := .pattern .checker, pattern := some .checker } }

/-- The same node in LOADING. -/
def loadingNode : State :=
  { State.reset with ring := { resetRing with link := .locked }, address := standbyNode.address }

/-- A unicast header to POSITION 5. -/
def unicast (sequence : Word) : Header := ⟨0#8, 1#16, 5#16, sequence, 0#16, 0#16, 0#16, []⟩

/-- A header to ALL, counts and map clear. -/
def multicast (sequence : Word) : Header := ⟨0#8, 4#16, 0#16, sequence, 0#16, 0#16, 0#16, [0#16, 0#16, 0#16, 0#16]⟩

/-- Twelve records: no entry free. -/
def fullQueue : ReplyQueue :=
  { resetQueue with entries := List.replicate 12 (.record ⟨some 5, some 700, false, .reply .identity [0, 0, 0, 0, 0, 0]⟩) }

/-- The code of the disposition in the packet last queued for sending: the word after the command code (Table 9-8). -/
def lastDisposition (s : State) : Option Word := s.ring.sendQueue.getLast?.map fun e => e.words.getD 6 0

/-- A unicast packet at a node whose last sequence is 41 is taken in, addressed and in sequence. -/
theorem offered_unicast {s : State} (hr : Receiving s) (ha : s.address = standbyNode.address)
    (hc : s.commands = standbyNode.commands) : Offered s (unicast 42) := by
  refine ⟨hr, rfl, .inl ⟨rfl, 5, by rw [ha]; rfl, rfl⟩, ?_⟩
  rw [hc]
  unfold SequencePasses
  rw [if_neg (by decide)]
  exact ⟨rfl, .inr (.inr ⟨41#8, rfl, rfl⟩)⟩

/-- A multicast packet at a node whose last multicast sequence is 6. -/
theorem offered_multicast {s : State} (hr : Receiving s) (hc : s.commands = standbyNode.commands) :
    Offered s (multicast 7) := by
  refine ⟨hr, rfl, .inr (.inr (.inr rfl)), ?_⟩
  rw [hc]
  unfold SequencePasses
  rw [if_pos (by decide)]
  exact .inr (by decide)

theorem offered_standby : Offered standbyNode (unicast 42) := offered_unicast (by decide) rfl rfl

theorem offered_active : Offered activeNode (unicast 42) := offered_unicast (by decide) rfl rfl

theorem offered_test : Offered testNode (unicast 42) := offered_unicast (by decide) rfl rfl

/-- In LOADING after a reset the last sequences are NONE, so any sequence passes (R104). -/
theorem offered_loading : Offered loadingNode (unicast 9) := by
  refine ⟨by decide, rfl, .inl ⟨rfl, 5, rfl, rfl⟩, ?_⟩
  unfold SequencePasses
  rw [if_neg (by decide)]
  exact ⟨rfl, .inr (.inl rfl)⟩

/-! ### Well-formedness: an ill-formed term for each check -/

/-- The header's refusal map: four words in GROUP and ALL modes only (Table 9-8). -/
theorem test_wf_refusal_map :
    Instr.wf (.copyLive { unicast 1 with refusalMap := [0, 0, 0, 0] }) = false ∧
      Instr.wf (.copyLive { multicast 1 with refusalMap := [] }) = false := by decide

/-- FILL: a payload of 1025 words (R150). -/
theorem test_wf_fill : Instr.wf (.fill 0 (List.replicate 1025 0)) = false := by decide +kernel

/-- PIXEL: the samples are three times the count (Table 9-3). -/
theorem test_wf_pixel : Instr.wf (.pixel 0 1 0 0 2 [1, 2, 3]) = false := by decide

/-- COLLECT: 4 plus the used words are at most 1024 (R150). -/
theorem test_wf_collect : Instr.wf (.collect 0 4 0 60 (List.replicate 1021 0)) = false := by decide +kernel

/-- WRITE TABLE: at least one value, at most 256 (R12). -/
theorem test_wf_write_table :
    Instr.wf (.writeTable (unicast 1) 0 0 []) = false ∧
      Instr.wf (.writeTable (unicast 1) 0 0 (List.replicate 257 0)) = false := by decide +kernel

/-- UNKNOWN COMMAND: code 1 with no parameters is IDENTIFY; more than 1000 parameters are none (Table 9-3). -/
theorem test_wf_unknown_command :
    Instr.wf (.unknownCommand (unicast 1) 1 []) = false ∧
      Instr.wf (.unknownCommand (unicast 1) 0x77 (List.replicate 1001 0)) = false := by decide +kernel

/-- DAMAGED PACKET and UNKNOWN PACKET: the words of a well-formed SHOW are neither; no words at all are no packet; more
than 1027 are never overrun (R150). -/
theorem test_wf_packets :
    Instr.wf (.damagedPacket (Packet.showFrame 0 7).words) = false ∧
      Instr.wf (.unknownPacket (Packet.showFrame 0 7).words) = false ∧
      Instr.wf (.damagedPacket []) = false ∧ Instr.wf (.overrunPacket []) = false ∧
      Instr.wf (.overrunPacket (List.replicate 1028 0)) = false := by decide +kernel

/-- PROGRAM COMPLETION: a defect lies in its table (Table 1-1). -/
theorem test_wf_program_completion : Instr.wf (.programCompletion [⟨.window, 3, 0⟩]) = false := by decide

/-! ### The wire -/

/-- The CRC of R152 over "12345678" in ASCII: CRC-16/CCITT-FALSE of those bytes, 0xA12B. -/
theorem test_crc_check_value : crc [0x3132, 0x3334, 0x3536, 0x3738] = 0xA12B := by decide +kernel

/-- A FILL of payload length 0: kind 0, length 0 and their check word (R149, Table 9-5). -/
theorem test_decode_fill : rowOfWords [0x0000, 0x0000, 0x84C0] = .fill 0 [] := by decide +kernel

/-- A SHOW of frame 0x1234: kind 0x12, length 1 (Tables 9-6 and 9-7). -/
theorem test_decode_show : rowOfWords [0x0012, 0x0001, 0x1234, 0x6A3F] = .showFrame 0 0x1234 := by decide +kernel

/-- COMMIT with RESYNC to ALL, target FRAME 900: kind word 0x0121, mode 4, code 0x13, counts, map, two parameters. -/
theorem test_decode_commit :
    rowOfWords [0x0121, 0x000E, 4, 0, 7, 0x0013, 0, 0, 0, 0, 0, 0, 0, 2, 2, 900, 0x2410] =
      .commit ⟨1, 4, 0, 7, 0, 0, 0, [0, 0, 0, 0]⟩ 2 900 := by decide +kernel

/-- A whole packet with kind code 0x55 is unknown; a SHOW with a wrong check word is damaged (R153, R154). -/
theorem test_decode_damaged_and_unknown :
    judge [0x0055, 0x0000, 0x31FE] = .unknown ∧ judge [0x0012, 0x0001, 0x1234, 0x6A3E] = .damaged := by
  decide +kernel

/-- The rows have no table word: no word spells one. -/
theorem test_decode_table_word : decodeTableWord 16 0 = none := by decide

/-! ### Tables and the picture, from the manual's tables -/

/-- The factory BANDS with a count, T1, T2, T3 and a cutoff (Table 1-6). -/
def bandsOf (count t1 t2 t3 cutoff : Int) : Bank :=
  { factory with bands :=
      [BitVec.ofInt 16 count, BitVec.ofInt 16 t1, BitVec.ofInt 16 t2, BitVec.ofInt 16 t3, 0, 0, 4, 0, 1, 2, 0, 0, 0,
        BitVec.ofInt 16 cutoff, 20] }

/-- Table 1-6: the eight examples of BANDS validation. -/
theorem test_bands_validation :
    [bandsOf 1 5 5 5 170, bandsOf 2 160 5 5 170, bandsOf 2 168 5 5 170, bandsOf 3 90 92 5 170, bandsOf 3 90 120 5 170,
      bandsOf 4 90 120 110 170, bandsOf 2 60 5 5 (-70), bandsOf 1 5 5 5 (-70)].map (fun b => tableFailure b .bands) =
      [none, none, some 13, some 2, none, some 3, some 13, some 14] := by decide +kernel

/-- Table 4-2: placement with hysteresis and fresh, count 3, T1 90, T2 120, H 4. -/
theorem test_placement :
    [(0, 92), (0, 94), (0, 130), (1, 118), (1, 122), (2, 119), (2, 85)].map (fun (b, t) =>
        (placeHysteresis (bandsOf 3 90 120 0 170) t b, placeFresh (bandsOf 3 90 120 0 170) t)) =
      [(0, 1), (1, 1), (2, 2), (1, 1), (1, 2), (1, 1), (0, 0)] := by decide +kernel

/-- The bank of section 2.8: WINDOW 64, 32, ROTATED; green knots 16 and 17; profile 1's scales; the gains of row 23,
column 3. -/
def exampleBank : Bank :=
  { factory with
    curve := (factory.curve.set 49 14000).set 50 15500
    gain := (factory.gain.set 2217 4300).set 2219 3900
    profile := [0, 0, 0, 0, 4096, 3800, 3500, 1, 0, 0, 0, 0, 0, 0, 0, 0]
    bands := [1, 0, 0, 0, 0, 0, 4, 1, 0, 0, 0, 0, 0, 170, 20]
    window := [64, 32, 1] }

/-- Section 2.8: an ACTIVE node with that live bank and the FILLING buffer tagged 700. -/
def exampleNode : State :=
  { activeNode with
    banks := resetBanks factory exampleBank
    frames := { activeNode.frames with buffer1 := ⟨.filling, some 700, black⟩ } }

/-- Table 2-4: red, green and blue of the pixel at wall column 92. -/
theorem test_correction :
    [corrected exampleBank 1 23 3 0 600, corrected exampleBank 1 23 3 1 530, corrected exampleBank 1 23 3 2 1000] =
      [40256, 13770, 52062] := by decide +kernel

/-- Section 2.8, a PIXEL: the three levels stand at row 23, column 3 of the FILLING buffer, which keeps its tag. -/
theorem test_pixel :
    let f := (after (.pixel 0 700 40 92 1 [600, 530, 1000]) exampleNode).frames
    (f.contentOf .filling).drop 2217 |>.take 3 = [40256, 13770, 52062] := by decide +kernel

/-- Table 2-5: a PIXEL of frame 698 is stale; Table 2-1: wall column 96 is outside the window. -/
theorem test_pixel_stale_and_outside :
    (after (.pixel 0 698 50 80 1 [1, 2, 3]) exampleNode).intake.stalePackets = 1 ∧
      (after (.pixel 0 702 40 96 1 [1, 2, 3]) exampleNode).frames.fillingTag = some 700 := by decide +kernel

/-- The node of section 3.8 before SHOW 43: FILLING 43, SHOWN 41, PENDING 42. -/
def showNode : State :=
  { activeNode with frames :=
    { activeNode.frames with
      buffer0 := ⟨.filling, some 43, black⟩, buffer1 := ⟨.shown, some 41, black⟩, buffer2 := ⟨.pending, some 42, black⟩ } }

/-- Table 3-5 at 16.90: SHOW 43 promotes and skips frame 42. -/
theorem test_show_promotes :
    let f := (after (.showFrame 0 43) showNode).frames
    f.buffers.map (fun b => (b.role, b.tag)) = [(.pending, some 43), (.shown, some 41), (.filling, none)] ∧
      f.skippedFrames = 1 ∧ f.unmatchedShows = 0 ∧ f.lastShow = some 43 ∧ f.holdTimer = some 200 := by decide +kernel

/-- Table 3-5 at 50.10: SHOW 45 finds FILLING 44 and is unmatched. -/
theorem test_show_unmatched :
    let f := (after (.showFrame 0 45)
      { showNode with frames := { showNode.frames with buffer0 := ⟨.filling, some 44, black⟩ } }).frames
    f.buffers.map (fun b => (b.role, b.tag)) = [(.filling, none), (.shown, some 41), (.pending, some 42)] ∧
      f.unmatchedShows = 1 := by decide +kernel

/-- Table 3-5 at 16.98: the boundary presents the PENDING buffer and frees the SHOWN one. -/
theorem test_refresh_boundary :
    let t := after .refreshBoundary showNode
    t.frames.buffers.map (fun b => (b.role, b.tag)) = [(.filling, some 43), (.free, none), (.shown, some 42)] ∧
      t.scan.source = .picture := by decide +kernel

/-- Table 3-5 at 250.10 and 5250.10: HOLD with the dark delay, then DARK with the timer stopped and the outputs dark. -/
theorem test_hold_timer :
    let hold := after .holdTimerExpiry activeNode
    let dark := after .holdTimerExpiry hold
    hold.frames.presentation = .hold ∧ hold.frames.holdTimer = some 5000 ∧ dark.frames.presentation = .dark ∧
      dark.frames.holdTimer = none ∧ dark.scan.source = .dark := by decide +kernel

/-- R63: SOLID, COLUMN RAMP and CHECKER at the last column and at row 0, column 1. -/
theorem test_patterns :
    (Pattern.solid 1 2 3).level 0 0 2 = 3 ∧ Pattern.columnRamp.level 0 31 0 = 63457 ∧
      Pattern.checker.level 0 1 0 = 0 ∧ Pattern.checker.level 1 1 0 = 65535 := by decide

/-! ### The ring -/

/-- Table 9-2: a loss at position 6, its repeats and its end: the LINK NOTICE packets placed and the LINK RESTORED
detail. -/
theorem test_link_loss :
    let s := { activeNode with address := ⟨some 6, none, 0⟩ }
    let t := after .lockGained (after .linkNoticeTimerExpiry (after .linkNoticeTimerExpiry (after .lossOfLock s)))
    t.ring.sendQueue.map SendEntry.words =
        [(.linkNotice 0 6 1 0 : Packet).words, (.linkNotice 0 6 1 1 : Packet).words, (.linkNotice 0 6 1 2 : Packet).words,
          (.linkNotice 0 6 2 3 : Packet).words] ∧
      t.ring.loss = none ∧ t.ring.linkLosses = 1 ∧
      t.queue.entries = [.record ⟨some 6, none, false, .notice .linkRestored 1 (some 3)⟩] := by decide +kernel

/-- A send queue of 3070 words of forwarded packets: one more than the limit of R151. -/
def crowdedNode : State :=
  { activeNode with ring := { activeNode.ring with sendQueue :=
    [⟨List.replicate 1027 0, false, false⟩, ⟨List.replicate 1027 0, false, false⟩,
      ⟨List.replicate 1016 0, false, false⟩, ⟨[1, 2, 3], true, false⟩] } }

/-- R158, R146: a CLEAR COUNTERS received whole before the loss and accepted after it clears it, and leaves ahead of the
LOST notice; nothing more is received after that. -/
theorem test_loss_before_clear_counters :
    let t := after .lossOfLock activeNode
    let u := after (.clearCounters (unicast 42)) t
    t.ring.linkLosses = 1 ∧ u.ring.linkLosses = 0 ∧ u.ring.link = .unlocked ∧ u.ring.loss = some ⟨1, 1⟩ ∧
      u.ring.sendQueue.map SendEntry.words =
        [(commandPacket { unicast 42 with disposition := 1 } .clearCounters).words,
          (Packet.linkNotice 0 5 1 0).words] ∧
      after (.showFrame 0 9) u = u := by decide +kernel

/-- R146, R149, R163: a loss of lock while a RESET NODE is awaited: the LOST notice leaves behind the SHOW received whole
before it, and RESTORED behind that. -/
theorem test_loss_behind_waiting_packets :
    let t := after .lockGained (after .lossOfLock (after (.showFrame 0 9) (after (.resetNode (unicast 42)) activeNode)))
    let u := after .resetNodeTakesEffect (after .forwardPacket t)
    t.ring.sendQueue.length = 1 ∧ t.ring.held.length = 3 ∧
      u.ring.sendQueue.map SendEntry.words =
        [(Packet.showFrame 0 9).words, (Packet.linkNotice 0 5 1 0).words, (Packet.linkNotice 0 5 2 1).words] := by
  decide +kernel

/-- R150, R151: a run of 1028 words leaves as it came, behind the packet that waits, counted once, and takes no room in the
send queue; with an overfull send queue too. -/
theorem test_run_too_long :
    let run := List.replicate 1028 (0 : Word)
    let t := after (.damagedPacket run) (after (.showFrame 0 9) activeNode)
    let u := after (.damagedPacket run) crowdedNode
    t.out = [.packet (Packet.showFrame 0 9).words, .packet run] ∧ t.ring.sendQueue = [] ∧ t.ring.damagedPackets = 1 ∧
      u.out.length = 5 ∧ u.out.getLast? = some (.packet run) ∧ u.ring.damagedPackets = 1 := by decide +kernel

/-- Table 8-2: ENUM 63 gives position 63 and leaves with 64; ENUM 64 gives none and leaves with 64. -/
theorem test_enum :
    let t := after (.enum 0 63) activeNode
    let u := after (.enum 0 64) activeNode
    t.address.position = some 63 ∧ t.commands.unicastLast = none ∧ u.address.position = none ∧
      t.ring.sendQueue.map SendEntry.words = [(Packet.enum 0 64).words] ∧
      u.ring.sendQueue.map SendEntry.words = [(Packet.enum 0 64).words] := by decide +kernel

/-- R149: a FILL is absorbed, and one of the node's own is sent when no packet waits. -/
theorem test_fill :
    (after (.fill 0 [7]) activeNode).ring.sendQueue = [] ∧
      (after .sendFill activeNode).out = [.packet [0x0000, 0x0000, 0x84C0]] := by decide +kernel

/-- R153 to R155: a LINK NOTICE, a damaged and an unknown packet are forwarded as they came, the last two counted. -/
theorem test_forwarded_unchanged :
    let s := after (.linkNotice 0 3 1 0) activeNode
    let t := after (.damagedPacket [1, 2]) activeNode
    let u := after (.unknownPacket [0x0055, 0x0000, 0x31FE]) activeNode
    s.ring.sendQueue.map SendEntry.words = [(Packet.linkNotice 0 3 1 0).words] ∧
      t.ring.sendQueue.map SendEntry.words = [[1, 2]] ∧ t.ring.damagedPackets = 1 ∧
      u.ring.sendQueue.map SendEntry.words = [[0x0055, 0x0000, 0x31FE]] ∧ u.ring.unknownPackets = 1 := by
  decide +kernel

/-- R151: an overrun packet is dropped and counted as damaged, unless it is FILL. -/
theorem test_overrun :
    (after (.overrunPacket (Packet.showFrame 0 7).words) crowdedNode).ring.damagedPackets = 1 ∧
      (after (.overrunPacket (Packet.showFrame 0 7).words) crowdedNode).frames.lastShow = none ∧
      (after (.fill 0 []) crowdedNode).ring.damagedPackets = 0 := by decide +kernel

/-! ### Commands, from sections 6.8, 6.9, 5.8 and 1.9 -/

/-- Section 6.8, events 1, 2 and 4: READ TEMPERATURE 42 accepted; resent with 12 entries BUSY; resent with room
DUPLICATE, with the REPLAY flag. -/
theorem test_read_temperature_replayed :
    let s := { activeNode with queue := { fullQueue with entries := fullQueue.entries.drop 1 } }
    let t := after (.readTemperature (unicast 42)) s
    let u := after (.readTemperature (unicast 42)) t
    let v := after (.readTemperature (unicast 42)) { t with queue := { t.queue with entries := [] } }
    lastDisposition t = some 1 ∧ t.queue.entries.length = 12 ∧ lastDisposition u = some 3 ∧
      u.queue.entries.length = 12 ∧ lastDisposition v = some 2 ∧
      v.queue.entries = t.commands.replayCache.toList.map fun r => Entry.record { r with replay := true } := by
  decide +kernel

/-- Section 6.8, events 5 to 7: WRITE TABLE 44 refused SEQUENCE and counted; a gain of 9000 INVALID; a gain of 4000
written. -/
theorem test_write_table :
    let t := after (.writeTable (unicast 44) 1 0 [4000]) activeNode
    let u := after (.writeTable (unicast 42) 1 0 [9000]) activeNode
    let v := after (.writeTable (unicast 42) 1 0 [4000]) activeNode
    lastDisposition t = some 4 ∧ t.commands.sequenceRefusals = 1 ∧ lastDisposition u = some 6 ∧
      u.commands.unicastLast = some 41 ∧ lastDisposition v = some 1 ∧ v.banks.staged.gain.head? = some 4000 ∧
      v.banks.dirty = 0b000010#6 := by decide +kernel

/-- R13: READ TABLE of the factory TIMING, entries 1 to 4. -/
theorem test_read_table :
    (after (.readTable (unicast 42) 1 5 1 4) activeNode).queue.entries =
      [.record ⟨some 5, some 700, false, .reply .tableData [0x112A, 1, 5, 1, 5000, 100, 0, 1]⟩] := by decide +kernel

/-- Section 6.9, nodes 0 and 1: COMMIT FRAME 900 to ALL accepted and counted; at a node that holds a commit LOCKED, with
its flag in the map. -/
theorem test_commit_multicast :
    let t := after (.commit (multicast 7) 2 900) activeNode
    let u := after (.commit (multicast 7) 2 900)
      { activeNode with banks := { activeNode.banks with commit := .pending .next } }
    t.banks.commit = .pending (.frame 900) ∧
      t.ring.sendQueue.map SendEntry.words =
        [(Packet.control { multicast 7 with accepts := 1 } 0x13 [2, 900]).words] ∧
      u.ring.sendQueue.map SendEntry.words =
        [(Packet.control { multicast 7 with refuses := 1, refusalMap := [0x20, 0, 0, 0] } 0x13 [2, 900]).words] := by
  decide +kernel

/-- Section 1.9: BANDS with T1 90, T2 92 is refused INVALID, with failure point BANDS, index 2. -/
theorem test_commit_invalid :
    let t := after (.commit (unicast 42) 2 4110)
      { activeNode with banks := { activeNode.banks with staged := bandsOf 3 90 92 0 170 } }
    lastDisposition t = some 6 ∧ t.banks.commit = .none ∧ t.banks.lastFailure = some ⟨.bands, 2⟩ := by decide +kernel

/-- R25: a FRAME 500 commit is not due at SHOW 499, and is at SHOW 502. -/
theorem test_commit_due :
    let s := { standbyNode with banks := { standbyNode.banks with commit := .pending (.frame 500), dirty := 0b000001#6 } }
    (after (.showFrame 0 499) s).banks.commit = .pending (.frame 500) ∧
      (after (.showFrame 0 502) s).banks.commit = .none ∧
      (after (.showFrame 0 502) s).queue.entries =
        [.record ⟨some 5, some 700, false, .notice .commitApplied 1 (some 1)⟩] := by decide +kernel

/-- R22, R14: CANCEL COMMIT leaves no commit; COPY LIVE empties the dirty set. -/
theorem test_cancel_and_copy :
    (after (.cancelCommit (unicast 42))
        { activeNode with banks := { activeNode.banks with commit := .pending .next } }).banks.commit = .none ∧
      (after (.copyLive (unicast 42))
        { activeNode with banks := { activeNode.banks with dirty := 0b111111#6 } }).banks.dirty = 0 := by decide +kernel

/-- The node of section 5.8 as far as its image records go: image 0 VALID with 7, image 1 VALID with 6. -/
def storeNode : State :=
  { activeNode with store := { activeNode.store with record0 := .valid 7, record1 := .valid 6 } }

/-- Section 5.8, first store: target image 1, generation 8, a reservation, then PROGRAM. -/
theorem test_store_tables :
    let t := after (.storeTables (unicast 42)) storeNode
    t.store.unit = .storing .erase .image1 8 ∧ t.store.record1 = .invalid ∧
      t.queue.entries = [.reservation 0x202A (some 5) (some 700)] ∧
      (after .eraseCompletion t).store.unit = .storing .program .image1 8 := by decide +kernel

/-- Section 5.8, the third store's end: VERIFY FAILED, image 0, generation 9. -/
theorem test_verify_failed :
    let s := { activeNode with
      store := { activeNode.store with image0 := .programmed (bandsOf 1 0 0 0 100), unit := .storing .verify .image0 9 }
      queue := { resetQueue with entries := [.reservation 0x202A (some 5) none] } }
    let t := after .verifyCompletion s
    t.store.unit = .idle ∧ t.store.record0 = .invalid ∧
      t.queue.entries = [.record ⟨some 5, none, false, .reply .storeResult [0x202A, 1, 0, 0, 9]⟩] := by decide +kernel

/-- R87, R88: PROGRAM copies the live bank, but for an entry that the memory failed to take. -/
theorem test_program :
    let s := { activeNode with store := { activeNode.store with unit := .storing .program .image0 1 } }
    ((after (.programCompletion []) s).verifies .image0, (after (.programCompletion [⟨.window, 2, 1⟩]) s).verifies .image0) =
      (true, false) := by decide +kernel

/-- R90, R91: LOAD STORED with no valid image ends NO VALID IMAGE and leaves the staged bank alone. -/
theorem test_load_stored :
    let t := after (.loadStored (unicast 42)) activeNode
    let u := after .loadCompletion t
    t.store.unit = .reading none ∧ u.store.unit = .idle ∧ u.banks.dirty = 0 ∧
      u.queue.entries = [.record ⟨some 5, some 700, false, .reply .loadResult [0x212A, 2, 65535, 0, 0]⟩] := by
  decide +kernel

/-- R142: IDENTIFY of position 5, logical id 700, groups 1 and 2, ACTIVE, revision 1. -/
theorem test_identify :
    (after (.identify (unicast 42)) activeNode).queue.entries =
      [.record ⟨some 5, some 700, false, .reply .identity [0x012A, 5, 700, 6, 2, 1]⟩] := by decide +kernel

/-- R141: SET IDENTITY by POSITION with 65535 clears the logical id; with 1024 it is INVALID. -/
theorem test_set_identity :
    (after (.setIdentity (unicast 42) 65535 9) activeNode).address = ⟨some 5, none, 9⟩ ∧
      lastDisposition (after (.setIdentity (unicast 42) 1024 9) activeNode) = some 6 := by decide +kernel

/-- R168, Table 9-17: a STATUS record has 49 body words; the node is ACTIVE, and its last sequence is its own. -/
theorem test_read_status :
    (after (.readStatus (unicast 42)) activeNode).queue.entries.map (fun e =>
        match e with
        | .record ⟨_, _, _, .reply .status body⟩ => [body.length, (body.getD 1 0).toNat, (body.getD 27 0).toNat]
        | _ => []) = [[49, 2, 42]] := by decide +kernel

/-- R166, Table 10-4: ACTIVE to STANDBY stops the timer and darkens; STANDBY to TEST with CHECKER starts it. -/
theorem test_set_state :
    let t := after (.setState (unicast 42) 1 0 0 0 0) activeNode
    let u := after (.setState (unicast 42) 3 3 0 0 0) standbyNode
    t.node = .standby ∧ t.frames.holdTimer = none ∧ t.scan.source = .dark ∧ u.node = .test ∧
      u.scan.pattern = some .checker ∧ u.frames.holdTimer = some 200 := by decide +kernel

/-- R129: SET NOTICES with bit 9 set is INVALID; 0x40 enables FRAME SKIPPED alone. -/
theorem test_set_notices :
    lastDisposition (after (.setNotices (unicast 42) 0x200) activeNode) = some 6 ∧
      (after (.setNotices (unicast 42) 0x40) activeNode).queue.mask = 0x40#9 := by decide +kernel

/-- R172: CLEAR COUNTERS; R106: code 0x77, and IDENTIFY with a parameter, are UNKNOWN. -/
theorem test_clear_counters_and_unknown :
    (after (.clearCounters (unicast 42)) { activeNode with intake := ⟨3, 4⟩ }).intake = ⟨0, 0⟩ ∧
      lastDisposition (after (.unknownCommand (unicast 42) 0x77 []) activeNode) = some 8 ∧
      lastDisposition (after (.unknownCommand (unicast 42) 0x01 [0]) activeNode) = some 8 := by decide +kernel

/-- R118, R163: RESET NODE is answered, a packet behind it waits, the answer leaves, and the reset takes effect. -/
theorem test_reset_node :
    let t := after (.showFrame 0 9) (after (.resetNode (unicast 42)) activeNode)
    let u := after .forwardPacket t
    let v := after .resetNodeTakesEffect u
    lastDisposition t = some 1 ∧ t.ring.held.length = 1 ∧ t.node = .active ∧ u.ring.resetPhase = .due ∧
      v.node = .loading ∧ v.frames.lastShow = none ∧ v.address = activeNode.address ∧
      v.ring.sendQueue.map SendEntry.words = [(Packet.showFrame 0 9).words] := by decide +kernel

/-! ### Temperature, notices and collection -/

/-- Table 4-4 in outline: the sample timer sends a request; 171 enters the cutoff and darkens; with no answer, SENSOR
FAULT, cause 1. -/
theorem test_temperature :
    let r := after .sampleTimerExpiry activeNode
    let t := after (.sensorAnswer 171) r
    let u := after .answerLimitExpiry r
    r.out = [.conversionRequest] ∧ t.thermal.reading = some 171 ∧ t.thermal.cutoff = .cut ∧ t.scan.source = .dark ∧
      t.queue.entries = [.record ⟨some 5, some 700, false, .notice .cutoffEntered 1 (some 171)⟩] ∧
      u.queue.entries = [.record ⟨some 5, some 700, false, .notice .sensorFault 1 (some 1)⟩] := by decide +kernel

/-- Section 7.8, node 2: its list and backlog. -/
def collectNode : State :=
  { activeNode with
    address := ⟨some 2, some 12, 0⟩
    queue :=
      { resetQueue with
        entries :=
          [.record ⟨some 2, some 12, false, .reply .tableData (List.replicate 24 0)⟩,
            .record ⟨some 2, some 12, false, .notice .holdEntered 1 (some 512)⟩,
            .record ⟨some 2, some 12, false, .notice .darkEntered 1 (some 512)⟩,
            .record ⟨some 2, some 12, false, .notice .cutoffEntered 1 (some 171)⟩,
            .record ⟨some 2, some 12, false, .notice .sensorFault 3 (some 1)⟩]
        backlog := [⟨.commitApplied, 1, some 2⟩] } }

/-- Table 7-4: with used 18 of 60, three records leave, COMMIT APPLIED enters at the tail, and 64 payload words go on. -/
theorem test_collect :
    let t := after (.collect 0 4 0 60 (List.replicate 18 0)) collectNode
    t.queue.entries.filterMap Entry.noticeKind = [.cutoffEntered, .sensorFault, .commitApplied] ∧
      t.queue.entries.length = 3 ∧ t.queue.backlog = [] ∧
      t.ring.sendQueue.map (fun e => e.words.length) = [67] := by decide +kernel

/-! ### Resets and start-up -/

/-- R162, R164, Table 5-2: the hard reset forgets position and link; with no valid image the start-up read loads the
factory defaults and leaves for STANDBY, the factory start state. -/
theorem test_hard_reset_and_start_up :
    let t := after .hardResetRelease (after .hardResetAsserted activeNode)
    let u := after .startupReadCompletion t
    t.address = ⟨none, none, 0⟩ ∧ t.ring.link = .unlocked ∧ t.node = .loading ∧ u.node = .standby ∧
      u.store.defaultsInUse = true ∧ u.thermal.sampleTimer = some 100 := by decide +kernel

/-- A step takes the front command; on an empty queue nothing changes. -/
theorem test_step :
    (match step { activeNode with pending := [.sendFill, .lockGained] } with
      | .next t => (t.pending, t.out.length)
      | .fault _ => ([], 0)
      | .refused _ => ([], 0)) = ([.lockGained], 1) ∧
    (match step activeNode with
      | .next t => t.out.length
      | .fault _ => 1
      | .refused _ => 1) = 0 := by decide +kernel

/-! ### Witnesses: states and operands that meet the hypotheses of the statements -/

/-- Boundary of R151: 3069 words of forwarded packets, the most with which a packet is still handled. -/
def roomNode : State :=
  { activeNode with ring := { activeNode.ring with sendQueue :=
    [⟨List.replicate 1027 0, false, false⟩, ⟨List.replicate 1027 0, false, false⟩,
      ⟨List.replicate 1015 0, false, false⟩] } }

theorem receiving_active : Receiving activeNode := by decide

theorem receiving_room : Receiving roomNode := by decide +kernel

/-- The staged bank is locked by a commit. -/
def lockedNode : State := { standbyNode with banks := { standbyNode.banks with commit := .pending .next } }

theorem offered_locked : Offered lockedNode (unicast 42) := offered_unicast (by decide) rfl rfl

/-- The node with a store in PROGRAM. -/
def storingNode : State := { standbyNode with store := { standbyNode.store with unit := .storing .program .image0 1 } }

theorem offered_storing : Offered storingNode (unicast 42) := offered_unicast (by decide) rfl rfl

/-- The node with a staged bank that validation refuses. -/
def invalidNode : State := { standbyNode with banks := { standbyNode.banks with staged := bandsOf 3 90 92 0 170 } }

theorem offered_invalid : Offered invalidNode (unicast 42) := offered_unicast (by decide) rfl rfl

/-- The node with no entry free. -/
def fullNode : State := { activeNode with queue := fullQueue }

theorem offered_full : Offered fullNode (unicast 42) := offered_unicast (by decide) rfl rfl

/-- The node with one entry free. -/
def nearlyFullNode : State := { activeNode with queue := { fullQueue with entries := fullQueue.entries.drop 1 } }

theorem offered_nearlyFull : Offered nearlyFullNode (unicast 42) := offered_unicast (by decide) rfl rfl

theorem not_locked_standby : ¬ StagedLocked standbyNode := by
  rintro (h | ⟨_, h⟩)
  · exact h rfl
  · cases h

theorem not_locked_active : ¬ StagedLocked activeNode := not_locked_standby

theorem witness_PacketRowsRoundTrip :
    Instr.wf (.writeTable (unicast 42) 1 0 [4000]) = true ∧
      (Instr.writeTable (unicast 42) 1 0 [4000]).words = some (commandPacket (unicast 42) (.writeTable 1 0 [4000])).words ∧
      ∀ raw, Instr.writeTable (unicast 42) 1 0 [4000] ≠ .overrunPacket raw :=
  ⟨by decide, rfl, fun _ h => nomatch h⟩

theorem witness_JudgementIsExact :
    judge (Packet.showFrame 0 7).words = .wellFormed (.showFrame 0 7) ∧ judge [0x0055, 0x0000, 0x31FE] = .unknown ∧
      Command.parse 0x10 (1 :: 0 :: List.replicate 256 4000) = some (.writeTable 1 0 (List.replicate 256 4000)) := by
  refine ⟨by decide +kernel, by decide +kernel, by decide +kernel⟩

theorem witness_HardResetSetsEveryBlock :
    (after .hardResetAsserted activeNode).resetPin = true ∧
      ∃ t u, exec .hardResetAsserted activeNode = .next t ∧ exec .hardResetRelease t = .next u :=
  ⟨rfl, _, _, rfl, rfl⟩

/-- A RESET NODE whose packet has left. -/
def dueNode : State := { activeNode with ring := { activeNode.ring with resetPhase := .due } }

theorem witness_ResetNodeTakesEffect :
    (dueNode.ring.resetPhase = .due ∧ dueNode.ring.held = []) ∧
      let packet := (Packet.showFrame 0 7).words
      let s := { dueNode with ring := { dueNode.ring with link := .unlocked, held := [.packet packet] } }
      let t := { s with ring := { s.ring with held := [.packet packet, .notice [1, 2]] } }
      (t.ring.resetPhase = .due ∧ t.ring.held = [.packet packet] ++ [.notice [1, 2]] ∧
        ∃ u, exec .resetNodeTakesEffect { t with ring := { t.ring with held := [.packet packet] } } = .next u) ∧
      (s.ring.resetPhase = .due ∧ s.ring.held = [] ++ [.packet packet] ∧ s.resetPin = false ∧
        (Instr.showFrame 0 7).words = some packet ∧ packet.length ≤ 1027 ∧
        ∃ u, exec .resetNodeTakesEffect { s with ring := { s.ring with held := [] } } = .next u ∧
          ∃ v, exec (.showFrame 0 7) { u with ring := { u.ring with link := .locked } } = .next v) :=
  ⟨⟨rfl, rfl⟩, ⟨rfl, rfl, _, rfl⟩, rfl, rfl, rfl, rfl, by decide, _, rfl, _, rfl⟩

theorem shaped_factory : factory.shaped = true := by decide +kernel

theorem validate_factory : validate factory = none := by decide +kernel

/-- A node in the start-up read, over two images. -/
def startupNode (image0 image1 : Image) : State :=
  { State.reset with store := resetStore image0 image1 }

/-- The hypothesis of `StartupReadLeavesLoading` on the images. -/
def StartupHypothesis (s : State) (tables : Bank) (defaults : Bool) : Prop :=
  s.resetPin = false ∧ s.store.unit = .startupRead ∧
    match s.store.image0.judged, s.store.image1.judged with
    | .valid a, .valid b =>
      (if b.toNat ≤ a.toNat then s.store.image0.tables = some tables else s.store.image1.tables = some tables) ∧
        defaults = false
    | .valid _, _ => s.store.image0.tables = some tables ∧ defaults = false
    | _, .valid _ => s.store.image1.tables = some tables ∧ defaults = false
    | _, _ => tables = factory ∧ defaults = true

theorem witness_StartupReadLeavesLoading :
    StartupHypothesis (startupNode .unwritten .unwritten) factory true ∧
      StartupHypothesis (startupNode (.written 7 factory (imageCheck 7 factory)) .unwritten) factory false ∧
      StartupHypothesis (startupNode (.programmed factory) (.written 8 factory (imageCheck 8 factory))) factory false ∧
      StartupHypothesis
        (startupNode (.written 7 factory (imageCheck 7 factory)) (.written 7 factory (imageCheck 7 factory))) factory
        false ∧
      StartupHypothesis
        (startupNode (.written 7 factory (imageCheck 7 factory)) (.written 8 factory (imageCheck 8 factory))) factory
        false := by
  have h7 := judged_written (g := 7) (by decide) shaped_factory validate_factory
  have h8 := judged_written (g := 8) (by decide) shaped_factory validate_factory
  refine ⟨⟨rfl, rfl, rfl, rfl⟩, ⟨rfl, rfl, ?_⟩, ⟨rfl, rfl, ?_⟩, ⟨rfl, rfl, ?_⟩, ⟨rfl, rfl, ?_⟩⟩ <;>
    simp only [startupNode, resetStore, h7, h8] <;>
    exact ⟨rfl, trivial⟩

/-- An image that holds nothing is none that is valid. -/
theorem witness_StartupReadLeavesLoading_image (g : BitVec 32) : ¬ ImageIsValid .unwritten g := by
  rintro ⟨_, _, h, _⟩
  cases h

theorem witness_LinkLockAndLoss :
    (State.reset.resetPin = false ∧ State.reset.ring.link = .unlocked ∧ State.reset.ring.loss = none) ∧
      (let s := { State.reset with ring := { resetRing with loss := some ⟨65535, 65535⟩, noticeTimer := some 250 } }
       s.resetPin = false ∧ s.ring.link = .unlocked ∧ s.ring.loss = some ⟨65535, 65535⟩ ∧
        s.ring.noticeTimer = some 250) ∧
      (activeNode.resetPin = false ∧ activeNode.ring.link = .locked) ∧
      (let r := { resetRing with standing := true, loss := some ⟨1, 1⟩, noticeTimer := some 250 }
       let s := { activeNode with ring := r.withNotice [1, 2] }
       s.resetPin = false ∧ s.ring = r.withNotice [1, 2] ∧ r.link = .unlocked ∧ r.standing = true ∧
        (Instr.enum 0 9).words = some (Packet.enum 0 9).words ∧ (Packet.enum 0 9).words.length ≤ 1027 ∧
        ∃ t, exec (.enum 0 9) { s with ring := { r with link := .locked, standing := false } } = .next t) :=
  ⟨by decide, by decide, by decide, rfl, rfl, rfl, rfl, rfl, by decide, _, rfl⟩

theorem witness_OutputCarriesTheSendQueue :
    (∃ e es, roomNode.ring.sendQueue = e :: es) ∧ activeNode.resetPin = false ∧ activeNode.ring.sendQueue = [] :=
  ⟨⟨_, _, rfl⟩, rfl, rfl⟩

theorem witness_PacketsNotHandled :
    (Instr.showFrame 0 7).words = some (Packet.showFrame 0 7).words ∧
      (after .hardResetAsserted activeNode).resetPin = true ∧
      (State.reset.resetPin = false ∧ State.reset.ring.link = .unlocked ∧ State.reset.ring.standing = false) ∧
      (dueNode.resetPin = false ∧ dueNode.ring.link = .locked ∧ dueNode.ring.resetPhase ≠ .idle ∧
        (Packet.showFrame 0 7).words.length ≤ 1027) := by
  refine ⟨rfl, rfl, by decide, by decide⟩

theorem witness_PacketsNoBlockActsOn :
    (Receiving roomNode ∧ (List.replicate 1024 (0 : Word)).length ≤ 1024 ∧ judge [1, 2] = .damaged ∧
      judge [0x0055, 0x0000, 0x31FE] = .unknown) ∧
      (1027 < (List.replicate 1028 (0 : Word)).length ∧ crowdedNode.resetPin = false ∧
        crowdedNode.ring.link = .locked ∧ crowdedNode.ring.sendQueue ≠ [] ∧
        ∃ u, exec .forwardPacket crowdedNode = .next u) ∧
      (dueNode.resetPin = false ∧ dueNode.ring.link = .locked ∧ dueNode.ring.sendQueue = [] ∧
        dueNode.ring.resetPhase = .due ∧ ∃ u, exec .resetNodeTakesEffect dueNode = .next u) ∧
      (activeNode.resetPin = false ∧ activeNode.ring.link = .locked ∧ activeNode.ring.sendQueue = [] ∧
        activeNode.ring.resetPhase = .idle) :=
  ⟨⟨receiving_room, by rw [List.length_replicate], by decide, by decide +kernel⟩,
    ⟨by rw [List.length_replicate]; decide, rfl, rfl, nofun, _, rfl⟩, ⟨rfl, rfl, rfl, rfl, _, rfl⟩, rfl, rfl, rfl, rfl⟩

theorem witness_OverrunPacketsAreDropped :
    (Instr.showFrame 0 7).words = some (Packet.showFrame 0 7).words ∧ (Packet.showFrame 0 7).words.length ≤ 1027 ∧
      crowdedNode.resetPin = false ∧ crowdedNode.ring.link = .locked ∧ crowdedNode.ring.resetPhase = .idle ∧
      forwardedWords crowdedNode.ring.sendQueue = 3070 := ⟨rfl, by decide, rfl, rfl, rfl, by decide +kernel⟩

theorem witness_RewrittenPacketsStayWellFormed :
    Receiving activeNode ∧ (Instr.enum 0 63).words = some (Packet.enum 0 63).words ∧
      judge (Packet.enum 0 63).words = .wellFormed (.enum 0 63) ∧ ∃ t, exec (.enum 0 63) activeNode = .next t :=
  ⟨receiving_active, rfl, by decide +kernel, _, rfl⟩

theorem witness_SendQueueStaysBounded :
    let s := { roomNode with pending := [.damagedPacket [1, 2]] }
    SendQueueOk s.ring ∧ ∃ t, step s = .next t := ⟨by decide +kernel, _, rfl⟩

theorem witness_EnumTakesPosition : Receiving activeNode := receiving_active

theorem witness_PacketsForOthersPassUnchanged :
    Receiving activeNode ∧ Header.wf { unicast 42 with value := 6 } = true ∧
      ¬ AddressedTo activeNode.address { unicast 42 with value := 6 } ∧
      ¬ AddressedTo activeNode.address { multicast 7 with mode := 3, value := 16 } ∧
      ¬ InScope activeNode.address 1 6 ∧ ¬ InScope activeNode.address 2 700 := by
  refine ⟨receiving_active, rfl, ?_, ?_, ?_, ?_⟩ <;>
    first
    | (rw [← concerned_iff]; decide)
    | (rw [← inScope_iff]; decide)

theorem witness_IdentifyReports :
    Offered nearlyFullNode (unicast 42) ∧ nearlyFullNode.queue.entries.length = 11 := ⟨offered_nearlyFull, by decide⟩

theorem witness_SetIdentityNames :
    (Offered loadingNode (unicast 9) ∧ loadingNode.node = .loading) ∧
      (Offered activeNode (unicast 42) ∧ activeNode.node ≠ .loading ∧ (unicast 42).mode = 1 ∧
        (1023#16).toNat = (1023 : Fin 1024).val ∧ 1024 ≤ (1024#16).toNat ∧ 1024#16 ≠ 65535#16) ∧
      (Offered activeNode (multicast 7) ∧ (multicast 7).mode ≠ 1) :=
  ⟨⟨offered_loading, rfl⟩, ⟨offered_active, by decide, rfl, by decide, by decide, by decide⟩,
    offered_multicast receiving_active rfl, by decide⟩

theorem witness_WriteTableWrites :
    (Offered standbyNode (unicast 42) ∧ standbyNode.node ≠ .loading ∧ 5 < (6#16).toNat ∧
      5#16 = tableCode .timing ∧ ¬ (5#16).toNat + [1#16].length ≤ TableName.timing.entries ∧
      (4#16).toNat + [1#16].length ≤ TableName.timing.entries ∧ ¬ StagedLocked standbyNode ∧
      EntryInRange .timing 4 1 ∧ ¬ EntryInRange .timing 4 0) ∧
      (Offered lockedNode (unicast 42) ∧ StagedLocked lockedNode) :=
  ⟨⟨offered_standby, by decide, by decide, rfl, by decide, by decide, not_locked_standby,
      (inRange_iff _ _ _).mp (by decide), fun h => absurd ((inRange_iff _ _ _).mpr h) (by decide)⟩,
    offered_locked, .inl (by decide)⟩

theorem witness_ReadTableReports :
    (Offered activeNode (unicast 42) ∧ activeNode.node ≠ .loading ∧ 1 < (2#16).toNat ∧ (1#16).toNat ≤ 1 ∧
      1#16 = tableCode .gain ∧ 60 < (61#16).toNat ∧ TableName.gain.entries < (3013#16).toNat + (60#16).toNat ∧
      (3012#16).toNat + (60#16).toNat ≤ TableName.gain.entries ∧
      (activeNode.banks.live.table .gain).length = TableName.gain.entries) ∧
      (Offered fullNode (unicast 42) ∧ 12 ≤ fullNode.queue.entries.length) :=
  ⟨⟨offered_active, by decide, by decide, by decide, rfl, by decide, by decide, by decide, by decide +kernel⟩,
    offered_full, by decide⟩

theorem witness_CopyLiveRestoresStaged :
    (Offered activeNode (unicast 42) ∧ activeNode.node ≠ .loading ∧ ¬ StagedLocked activeNode) ∧
      (Offered lockedNode (unicast 42) ∧ lockedNode.node ≠ .loading ∧ StagedLocked lockedNode) :=
  ⟨⟨offered_active, by decide, not_locked_active⟩, offered_locked, by decide, .inl (by decide)⟩

theorem witness_CommitWaitsForShow :
    Offered activeNode (unicast 42) ∧ activeNode.node ≠ .loading ∧ ¬ StagedLocked activeNode ∧
      validate activeNode.banks.staged = none := ⟨offered_active, by decide, not_locked_active, validate_factory⟩

theorem not_storing_standby (phase : Phase) (target : ImageId) (generation : BitVec 32) :
    standbyNode.store.unit ≠ .storing phase target generation := by
  intro h
  cases h

theorem witness_CommitImmediateApplies :
    (Offered standbyNode (unicast 42) ∧ standbyNode.node = .standby ∧ ¬ StagedLocked standbyNode ∧
      (∀ phase target generation, standbyNode.store.unit ≠ .storing phase target generation) ∧
      validate standbyNode.banks.staged = none) ∧
      (Offered testNode (unicast 42) ∧ testNode.node = .test) :=
  ⟨⟨offered_standby, rfl, not_locked_standby, not_storing_standby, validate_factory⟩, offered_test, rfl⟩

/-- A whole bank that validation refuses at BANDS, index 2 (section 1.9). -/
theorem shaped_refused : (bandsOf 3 90 92 0 170).shaped = true := by decide +kernel

theorem witness_CommitRefusals :
    (factory.shaped = true ∧ (bandsOf 3 90 92 0 170).shaped = true) ∧
      (Offered standbyNode (unicast 42) ∧ standbyNode.node ≠ .loading ∧ (0#16).toNat < 1 ∧ 3 < (4#16).toNat) ∧
      (Offered activeNode (unicast 42) ∧ activeNode.node = .active) ∧
      (Offered lockedNode (unicast 42) ∧ StagedLocked lockedNode ∧ lockedNode.node ≠ .active) ∧
      (Offered storingNode (unicast 42) ∧ ¬ StagedLocked storingNode ∧
        storingNode.store.unit = .storing .program .image0 1) ∧
      (Offered invalidNode (unicast 42) ∧ ¬ StagedLocked invalidNode ∧
        validate invalidNode.banks.staged = some ⟨.bands, 2⟩) := by
  refine ⟨⟨shaped_factory, shaped_refused⟩, ⟨offered_standby, by decide, by decide, by decide⟩, ⟨offered_active, rfl⟩,
    ⟨offered_locked, .inl (by decide), by decide⟩, ⟨offered_storing, ?_, rfl⟩, ⟨offered_invalid, ?_, by decide +kernel⟩⟩ <;>
    rintro (h | ⟨_, h⟩) <;> first | exact h rfl | cases h

theorem witness_CancelCommitWithdraws : Offered lockedNode (unicast 42) ∧ lockedNode.node ≠ .loading :=
  ⟨offered_locked, by decide⟩

theorem witness_StoreTablesBegins :
    (Offered storingNode (unicast 42) ∧ storingNode.node ≠ .loading ∧ storingNode.store.unit ≠ .idle) ∧
      (let s := { storeNode with store := { storeNode.store with record0 := .valid 4294967295 } }
       Offered s (unicast 42) ∧ s.store.unit = .idle ∧ (4294967295#32).toNat = 4294967295) ∧
      (Offered fullNode (unicast 42) ∧ fullNode.store.unit = .idle ∧ fullNode.store.record0 = .invalid ∧
        12 ≤ fullNode.queue.entries.length) ∧
      (Offered nearlyFullNode (unicast 42) ∧ nearlyFullNode.store.unit = .idle ∧
        nearlyFullNode.store.record0 = .invalid ∧ nearlyFullNode.queue.entries.length = 11) :=
  ⟨⟨offered_storing, by decide, by decide⟩, ⟨offered_unicast (by decide) rfl rfl, rfl, by decide⟩,
    ⟨offered_full, rfl, rfl, by decide⟩, offered_nearlyFull, rfl, rfl, by decide⟩

theorem witness_LoadStoredBegins :
    (Offered lockedNode (unicast 42) ∧ lockedNode.node ≠ .loading ∧ lockedNode.banks.commit ≠ .none) ∧
      (Offered storingNode (unicast 42) ∧ storingNode.banks.commit = .none ∧ storingNode.store.unit ≠ .idle) ∧
      (Offered fullNode (unicast 42) ∧ fullNode.banks.commit = .none ∧ 12 ≤ fullNode.queue.entries.length) ∧
      (Offered nearlyFullNode (unicast 42) ∧ nearlyFullNode.banks.commit = .none ∧ nearlyFullNode.store.unit = .idle ∧
        nearlyFullNode.queue.entries.length = 11) :=
  ⟨⟨offered_locked, by decide, by decide⟩, ⟨offered_storing, rfl, by decide⟩, ⟨offered_full, rfl, by decide⟩,
    offered_nearlyFull, rfl, rfl, by decide⟩

theorem witness_ReadStatusReports :
    Offered nearlyFullNode (unicast 42) ∧ nearlyFullNode.queue.entries.length = 11 := ⟨offered_nearlyFull, by decide⟩

theorem witness_ReadTemperatureReports :
    Offered nearlyFullNode (unicast 42) ∧ nearlyFullNode.node ≠ .loading ∧ nearlyFullNode.queue.entries.length = 11 :=
  ⟨offered_nearlyFull, by decide, by decide⟩

theorem witness_SetStateMoves :
    (Offered standbyNode (unicast 42) ∧ standbyNode.node ≠ .loading ∧ (0#16).toNat < 1 ∧ 3 < (4#16).toNat) ∧
      (Offered activeNode (unicast 42) ∧ activeNode.node ≠ .loading ∧
        ∃ p : Pattern, p = .solid 1 2 3 ∨ p = .columnRamp ∨ p = .checker) :=
  ⟨⟨offered_standby, by decide, by decide, by decide⟩, offered_active, by decide, .checker, .inr (.inr rfl)⟩

theorem witness_SetNoticesMasks :
    (Offered loadingNode (unicast 9) ∧ loadingNode.node = .loading) ∧
      (Offered activeNode (unicast 42) ∧ activeNode.node ≠ .loading ∧ 512 ≤ (512#16).toNat ∧ (511#16).toNat < 512) :=
  ⟨⟨offered_loading, rfl⟩, offered_active, by decide, by decide, by decide⟩

theorem witness_ClearCountersClears :
    (Offered loadingNode (unicast 9) ∧ loadingNode.node = .loading) ∧
      (Offered activeNode (unicast 42) ∧ activeNode.node ≠ .loading) :=
  ⟨⟨offered_loading, rfl⟩, offered_active, by decide⟩

theorem witness_ResetNodeIsAnsweredFirst : Offered loadingNode (unicast 9) ∧ Offered activeNode (multicast 7) :=
  ⟨offered_loading, offered_multicast receiving_active rfl⟩

theorem witness_UnknownCommandsAreRefused :
    Offered activeNode (unicast 42) ∧ (List.replicate 259 (0 : Word)).length ≤ 1000 ∧
      ∀ row ∈ [(0x01, 0, 0), (0x02, 2, 2), (0x10, 3, 258), (0x11, 4, 4), (0x12, 0, 0), (0x13, 2, 2), (0x14, 0, 0),
        (0x20, 0, 0), (0x21, 0, 0), (0x30, 0, 0), (0x31, 0, 0), (0x40, 5, 5), (0x41, 1, 1), (0x42, 0, 0),
        (0x4F, 0, 0)],
      ¬ ((0x10#16).toNat = row.1 ∧ row.2.1 ≤ (List.replicate 259 (0 : Word)).length ∧
        (List.replicate 259 (0 : Word)).length ≤ row.2.2) :=
  ⟨offered_active, by rw [List.length_replicate]; decide, by decide +kernel⟩

theorem witness_StateAndRoomRefusals :
    (Offered loadingNode (unicast 9) ∧ loadingNode.node = .loading ∧ Command.wf (.writeTable 0 0 [1]) = true) ∧
      (Offered fullNode (unicast 42) ∧ 12 ≤ fullNode.queue.entries.length ∧ fullNode.node ≠ .loading) :=
  ⟨⟨offered_loading, rfl, rfl⟩, offered_full, by decide, by decide⟩

theorem witness_SequencingStopsPackets :
    let s := { activeNode with commands :=
      { activeNode.commands with replayCache := some ⟨some 5, some 700, false, .reply .identity []⟩ } }
    Receiving s ∧ AddressedTo s.address (unicast 41) ∧ s.commands.unicastLast = some 41 ∧
      ({ unicast 42 with disposition := 1 } : Header).disposition ≠ 0 ∧
      ((unicast 43).sequence.setWidth 8 ≠ 41#8 ∧ (unicast 43).sequence.setWidth 8 ≠ 41#8 + 1#8) ∧
      ((unicast 41).sequence.setWidth 8 = 41#8 ∧ s.commands.replayCache ≠ none ∧ s.queue.entries.length < 12) ∧
      activeNode.commands.replayCache = none ∧ (Receiving fullNode ∧ 12 ≤ fullNode.queue.entries.length) ∧
      (AddressedTo s.address (multicast 6) ∧ s.commands.multicastLast = some ((multicast 6).sequence.setWidth 8)) :=
  ⟨by decide, .inl ⟨rfl, 5, rfl, rfl⟩, rfl, by decide, by decide, by decide, rfl, by decide, .inr (.inr (.inr rfl)), rfl⟩

theorem witness_RefusalMapMarksOnePosition : ([0, 0, 0, 0] : List Word).length = 4 := rfl

/-- A queue at its limits: twelve entries, four of them notices, a kind in the backlog. -/
def noticeQueue : ReplyQueue :=
  { entries :=
      List.replicate 8 (.reservation 0 none none) ++
        [.record ⟨none, none, false, .notice .bandChanged 65535 (some 1)⟩,
          .record ⟨none, none, false, .notice .holdEntered 1 none⟩,
          .record ⟨none, none, false, .notice .darkEntered 1 none⟩,
          .record ⟨none, none, false, .notice .sensorFault 1 (some 1)⟩]
    backlog := [⟨.cutoffEntered, 65535, some 171⟩]
    mask := 0b110111111#9 }

theorem witness_NoticeOccurrences :
    QueueOk noticeQueue ∧ noticeQueue.mask.getLsbD (noticeCode .frameSkipped) = false ∧
      noticeQueue.mask.getLsbD (noticeCode .bandChanged) = true ∧
      (∃ before after, noticeQueue.entries =
        before ++ .record ⟨none, none, false, .notice .bandChanged 65535 (some 1)⟩ :: after) ∧
      (∃ before after, noticeQueue.backlog = before ++ ⟨.cutoffEntered, 65535, some 171⟩ :: after) ∧
      (NoticeKind.commitApplied ∉ noticeKinds noticeQueue ∧ 12 ≤ noticeQueue.entries.length) ∧
      (QueueOk resetQueue ∧ NoticeKind.commitApplied ∉ noticeKinds resetQueue ∧ resetQueue.entries.length < 12 ∧
        noticeCount resetQueue.entries < 4) :=
  ⟨by decide, by decide, by decide, ⟨_, _, rfl⟩, ⟨[], _, rfl⟩, by decide, by decide⟩

theorem witness_CollectDrains :
    (let s := { collectNode with queue := { collectNode.queue with backlog := [] } }
     Receiving s ∧ InScope s.address 4 0 ∧ s.queue.backlog = [] ∧
      ∃ (drained : List Record) (rest : List Entry) (r : Record) (more : List Entry), s.queue.entries = drained.map Entry.record ++ rest ∧
        (drained.flatMap Record.words).length = min (60#16).toNat 1000 - (List.replicate 18 (0 : Word)).length ∧
        rest = .record r :: more ∧
        min (60#16).toNat 1000 - (List.replicate 18 (0 : Word)).length <
          (drained.flatMap Record.words).length + r.words.length) ∧
      (Receiving collectNode ∧ InScope collectNode.address 4 0 ∧
        ∃ r rest, collectNode.queue.entries = .record r :: rest ∧
          r.words.length ≤ min (60#16).toNat 1000 - (List.replicate 18 (0 : Word)).length ∧
          min (45#16).toNat 1000 - (List.replicate 18 (0 : Word)).length < r.words.length) ∧
      collectNode.queue.backlog ≠ [] := by
  refine ⟨⟨by decide, .inr (.inr rfl), rfl,
      [⟨some 2, some 12, false, .reply .tableData (List.replicate 24 0)⟩,
        ⟨some 2, some 12, false, .notice .holdEntered 1 (some 512)⟩,
        ⟨some 2, some 12, false, .notice .darkEntered 1 (some 512)⟩], _, _, _, rfl, ?_, rfl, ?_⟩,
    ⟨by decide, .inr (.inr rfl), _, _, rfl, ?_, ?_⟩, ?_⟩ <;> decide +kernel

theorem framesOk_example : FramesOk exampleNode.frames := by decide +kernel

/-- A node with a conversion request outstanding. -/
def requestNode : State := { activeNode with thermal := { activeNode.thermal with request := some 20 } }

/-- Wall column 95 is the last in the window of Table 2-1. -/
theorem witness_PixelPacketsAreTaken :
    Receiving exampleNode ∧ exampleNode.node = .active ∧ FramesOk exampleNode.frames ∧
      ([1, 2, 3] : List Word).length = 3 * (1#16).toNat ∧
      (∃ j, j < (1#16).toNat ∧ WallPixelInWindow exampleNode.banks.live (40#16).toNat ((95#16).toNat + j)) ∧
      exampleNode.frames.buffer1.role = .filling ∧ exampleNode.frames.buffer1.tag = some 700 :=
  ⟨by decide, rfl, framesOk_example, rfl, ⟨0, by decide, by decide, by decide, by decide, by decide⟩, rfl, rfl⟩

theorem witness_PixelPacketsRetagOrAreStale :
    (1 ≤ (701#16 - 700#16).toNat ∧ (33467#16 - 700#16).toNat = 32767 ∧ 32768 = (33468#16 - 700#16).toNat) ∧
      Receiving exampleNode ∧ FramesOk exampleNode.frames ∧ exampleNode.frames.buffer1.role = .filling ∧
      exampleNode.frames.buffer1.tag = some 700 ∧
      WallPixelInWindow exampleNode.banks.live (63#16).toNat (64#16).toNat :=
  ⟨by decide, by decide, framesOk_example, rfl, rfl, by decide, by decide, by decide, by decide⟩

theorem witness_PixelPacketsIgnored :
    Receiving loadingNode ∧ Receiving exampleNode ∧ (List.replicate 771 (0 : Word)).length = 3 * (257#16).toNat ∧
      (List.replicate 771 (0 : Word)).length ≤ 1020 ∧ 256 < (257#16).toNat ∧
      ∀ j, j < (1#16).toNat → ¬ WallPixelInWindow exampleNode.banks.live (40#16).toNat ((96#16).toNat + j) := by
  refine ⟨by decide, by decide, by rw [List.length_replicate]; decide, by rw [List.length_replicate]; decide, by decide, ?_⟩
  rintro j - ⟨-, -, -, h⟩
  have : exampleNode.banks.live.originColumn = 64 := by decide +kernel
  rw [this] at h
  have : (96#16).toNat = 96 := rfl
  omega

theorem witness_CorrectionKeepsItsRanges :
    factory.shaped = true ∧ validate factory = none ∧ gained 8191 1 ≤ gained 8191 65535 :=
  ⟨by decide +kernel, validate_factory, by decide⟩

theorem framesOk_show : FramesOk showNode.frames := by decide +kernel

theorem witness_ShowsChangeThePicture :
    (Receiving showNode ∧ showNode.node = .active ∧ FramesOk showNode.frames ∧ showNode.banks.commit = .none ∧
      showNode.thermal.pending = none ∧ showNode.frames.buffer0.role = .filling ∧
      showNode.frames.buffer0.tag = some 43 ∧ showNode.frames.buffer2.role = .pending ∧
      showNode.frames.buffer2.tag = some 42) ∧
      (FramesOk exampleNode.frames ∧ ¬ HasRole exampleNode.frames .pending ∧
        exampleNode.frames.buffer1.role = .filling ∧ exampleNode.frames.buffer1.tag = some 700) :=
  ⟨⟨by decide, rfl, framesOk_show, rfl, rfl, rfl, rfl, rfl, rfl⟩, framesOk_example,
    (by rintro (h | h | h) <;> cases h), rfl, rfl⟩

theorem witness_ShowsOutsideThePicture :
    (Receiving loadingNode ∧ loadingNode.node = .loading) ∧ (Receiving standbyNode ∧ standbyNode.node = .standby) := by
  decide

/-- With a commit outstanding and a band pending too. -/
theorem witness_CommitsApplyBeforeTheFrame :
    Receiving testNode ∧ testNode.node = .test ∧
      let s := { activeNode with
        banks := { activeNode.banks with commit := .pending .next, dirty := 1 }
        thermal := { activeNode.thermal with pending := some 1 } }
      Receiving s ∧ s.node = .active := by decide

/-- A node showing a pattern, and one showing a picture: neither dark. -/
theorem witness_RefreshBoundaryPresents :
    (testNode.resetPin = false ∧ testNode.node = .test ∧ testNode.frames.presentation ≠ .dark ∧
      testNode.thermal.cutoff ≠ .cut ∧ testNode.scan.pattern = some .checker) ∧
      (showNode.resetPin = false ∧ showNode.node = .active ∧ showNode.frames.presentation ≠ .dark ∧
        showNode.thermal.cutoff ≠ .cut ∧ FramesOk showNode.frames) :=
  ⟨by decide, rfl, rfl, by decide, by decide, framesOk_show⟩

theorem witness_HoldTimerExpires :
    (activeNode.frames.holdTimer = some 200 ∧ activeNode.frames.presentation = .live) ∧
      (let s := after .holdTimerExpiry activeNode
       s.frames.holdTimer = some 5000 ∧ s.frames.presentation = .hold) := by decide +kernel

theorem witness_SampleTimerExpires :
    (activeNode.thermal.sampleTimer = some 100 ∧ activeNode.thermal.request = none) ∧
      (requestNode.thermal.sampleTimer = some 100 ∧ requestNode.thermal.request = some 20) := by decide

theorem witness_GoodReadingsPlaceAndCut :
    activeNode.thermal.request = none ∧ requestNode.thermal.request = some 20 ∧
      -80 = (BitVec.ofInt 16 (-80)).toInt ∧ (250#16).toInt = 250 := by decide

theorem witness_FaultsFallBack :
    requestNode.thermal.request = some 20 ∧ (BitVec.ofInt 16 (-81)).toInt < -80 ∧ 250 < (251#16).toInt := by decide

theorem witness_BandsArePlaced :
    let b := bandsOf 3 90 120 0 170
    1 ≤ b.bandCount ∧ 2 < b.bandCount ∧
      (∀ i, 1 ≤ i → i + 1 < b.bandCount → b.threshold (i + 1) - b.threshold i > b.hysteresis) ∧ 1 ≤ b.hysteresis := by
  refine ⟨by decide +kernel, by decide +kernel, ?_, by decide +kernel⟩
  intro i h1 h2
  have h3 : (bandsOf 3 90 120 0 170).bandCount = 3 := by decide +kernel
  have : i = 1 := by omega
  subst this
  decide +kernel

/-- A node whose store unit does this, over this image 0. -/
def unitNode (image0 : Image) (unit : StoreUnit) : State :=
  { activeNode with store := { activeNode.store with image0 := image0, unit := unit } }

theorem witness_StorePhasesComplete :
    (unitNode .unwritten (.storing .erase .image1 8)).store.unit = .storing .erase .image1 8 ∧
      (unitNode .unwritten (.storing .program .image1 8)).store.unit = .storing .program .image1 8 ∧
      (let s := unitNode (.programmed factory) (.storing .verify .image0 9)
       s.store.unit = .storing .verify .image0 9 ∧ s.store.image0 = .programmed factory ∧ factory = s.banks.live) ∧
      (let s := unitNode (.programmed (bandsOf 1 0 0 0 100)) (.storing .verify .image0 9)
       s.store.unit = .storing .verify .image0 9 ∧ s.store.image0 = .programmed (bandsOf 1 0 0 0 100) ∧
        bandsOf 1 0 0 0 100 ≠ s.banks.live) :=
  ⟨rfl, rfl, ⟨rfl, rfl, rfl⟩, rfl, rfl, fun h => absurd (congrArg Bank.cutoff h) (by decide +kernel)⟩

theorem witness_LoadCompletes :
    (let s : State :=
      { activeNode with store :=
        { activeNode.store with
          image1 := .written 8 factory 0, record1 := .valid 8, unit := .reading (some .image1) } }
     s.store.unit = .reading (some .image1) ∧ s.store.image1 = .written 8 factory 0 ∧ s.store.record1 = .valid 8) ∧
      (unitNode .unwritten (.reading none)).store.unit = .reading none :=
  ⟨⟨rfl, rfl, rfl⟩, rfl⟩

theorem witness_StoresTouchOnlyTheirTarget :
    storingNode.store.unit = .storing .program .image0 1 ∧ ∃ t, exec (.programCompletion []) storingNode = .next t :=
  ⟨rfl, _, rfl⟩

/-- A node with a SHOW in front. -/
def pendingNode : State := { showNode with pending := [.showFrame 0 43] }

theorem witness_FramesStayOk : FramesOk pendingNode.frames ∧ ∃ t, step pendingNode = .next t := ⟨framesOk_show, _, rfl⟩

theorem witness_OutputsStayDark :
    let s := { pendingNode with thermal := { pendingNode.thermal with cutoff := .cut } }
    OutputsOk s ∧ s.forcedDark = true ∧ ∃ t, step s = .next t := ⟨by decide, rfl, _, rfl⟩

theorem witness_ReplyQueueStaysBounded :
    let s := { pendingNode with
      queue := noticeQueue
      commands := { pendingNode.commands with replayCache := some ⟨some 5, none, false, .reply .status []⟩ } }
    QueueOk s.queue ∧ CacheOk s.commands ∧ ∃ t, step s = .next t := by
  refine ⟨by decide, ?_, _, rfl⟩
  intro r h
  cases h
  exact ⟨rfl, _, _, rfl⟩

theorem witness_CoreStaysOk :
    CoreOk pendingNode ∧ RingOk pendingNode ∧ ∃ t, step pendingNode = .next t := by
  refine ⟨⟨?_, ?_, ?_, ?_, ?_, ?_⟩, by decide, _, rfl⟩
  · exact ⟨by decide +kernel, by decide +kernel, by decide +kernel, validate_factory, fun h => (nomatch h)⟩
  · intro _ t _
    rfl
  · refine ⟨fun i g h => ?_, fun i => ?_, fun _ _ _ h => ?_, fun _ h => ?_⟩
    · cases i <;> cases h
    · cases i <;> exact ⟨fun h => (nomatch h), fun h => (nomatch h)⟩
    · cases h
    · cases h
  · rfl
  · exact ⟨by decide +kernel, fun _ h => (nomatch h), fun _ h => (nomatch h)⟩
  · decide

end Sys2Proof.Tests
end

section
/-! The way of packets and commands, packaged as inductions: a property of the state that every block's operation keeps
is kept by every run of words the node receives (Chapter 9), and one that every command's parts keep is kept by every
CONTROL packet (Chapter 6). -/

namespace Sys2Proof.Machine

-- One theorem after another, as in the tests: side by side each would hold a thread and its stack.
set_option Elab.async false

/-! ### Packets -/

/-- What a property of the state must keep to be kept by whatever the node receives: it does not speak of the Ring
Interface or of the outputs, and the blocks' operations on a packet keep it. -/
structure KeptByPackets (P : State → Prop) : Prop where
  ring : ∀ s r, P s → P { s with ring := r }
  out : ∀ s o, P s → P { s with out := o }
  pixel : ∀ s frame line column count samples, P s → P (s.takePixelPacket frame line column count samples)
  showFrame : ∀ s k, P s → P (s.takeShow k)
  collect : ∀ s mode value capacity used, P s → P (s.takeCollect mode value capacity used).1
  enum : ∀ s q, P s → P (s.takePosition q)
  control : ∀ s h code params, P s → P (s.commandUnit h code params).1
  nodeReset : ∀ s, P s → P s.nodeReset

namespace KeptByPackets

variable {P : State → Prop} (keeps : KeptByPackets P)
include keeps

theorem takeControl {s : State} (hs : P s) (h : Header) (code : Word) (params : List Word) :
    P (s.takeControl h code params) := by
  unfold State.takeControl
  split
  · exact keeps.ring _ _ (keeps.control s h code params hs)
  · exact keeps.ring _ _ hs

theorem takeWellFormed {s : State} (hs : P s) (raw : List Word) (p : Packet) : P (s.takeWellFormed raw p) := by
  cases p with
  | fill _ _ => exact hs
  | pixel _ frame line column count samples => exact keeps.ring _ _ (keeps.pixel s frame line column count samples hs)
  | showFrame _ k => exact keeps.ring _ _ (keeps.showFrame s k hs)
  | control h code params => exact keeps.takeControl hs h code params
  | collect _ mode value capacity records =>
    exact keeps.ring _ _ (keeps.collect s mode value capacity records.length hs)
  | enum _ q => exact keeps.ring _ _ (keeps.enum s q hs)
  | linkNotice _ _ _ _ => exact keeps.ring _ _ hs

theorem handle {s : State} (hs : P s) (raw : List Word) : P (s.handle raw) := by
  unfold State.handle
  split
  · unfold State.overrun
    split
    · exact hs
    · exact keeps.ring _ _ hs
  · split
    · exact keeps.ring _ _ (keeps.ring _ _ hs)
    · exact keeps.ring _ _ (keeps.ring _ _ hs)
    · exact keeps.takeWellFormed hs raw _

theorem takeWhole {s : State} (hs : P s) (raw : List Word) : P (s.takeWhole raw) := by
  unfold State.takeWhole
  split
  · exact keeps.handle hs raw
  · exact keeps.ring _ _ hs

theorem takeWaiting {s : State} (hs : P s) : ∀ w : Waiting, P (s.takeWaiting w)
  | .packet raw => keeps.takeWhole hs raw
  | .notice _ => keeps.ring _ _ hs

theorem resetNodeTakesEffect {s : State} (hs : P s) : P s.resetNodeTakesEffect := by
  unfold State.resetNodeTakesEffect
  split
  · exact hs
  · exact hs
  · exact List.foldlRecOn _ _ (keeps.ring _ _ (keeps.nodeReset s hs)) fun _ hu w _ => keeps.takeWaiting hu w

theorem sendAll {s : State} (hs : P s) : P s.sendAll :=
  keeps.out { s with ring := s.sendAll.ring } s.sendAll.out (keeps.ring s s.sendAll.ring hs)

theorem clearTheWay {s : State} (hs : P s) (turns : Nat) : P (s.clearTheWay turns) := by
  induction turns generalizing s with
  | zero => exact keeps.sendAll hs
  | succ turns ih =>
    unfold State.clearTheWay
    dsimp only
    split
    · exact ih (keeps.resetNodeTakesEffect (keeps.sendAll hs))
    · exact keeps.sendAll hs

theorem takeRun {s : State} (hs : P s) (raw : List Word) : P (s.takeRun raw) := by
  unfold State.takeRun
  dsimp only
  split
  · exact keeps.out _ _ (keeps.ring _ _ (keeps.clearTheWay (keeps.ring _ _ hs) _))
  · exact keeps.takeWhole (keeps.ring _ _ hs) raw

theorem takeStanding {s : State} (hs : P s) (raw : List Word) : P (s.takeStanding raw) := by
  unfold State.takeStanding
  split
  · exact hs
  · exact keeps.ring _ _ (keeps.ring _ _ (keeps.takeRun (keeps.ring _ _ hs) raw))

/-- The induction over what the node receives. -/
theorem receive {s : State} (hs : P s) (raw : List Word) : P (s.receive raw) := by
  unfold State.receive
  split
  · exact keeps.out _ _ hs
  · split
    · split
      · exact keeps.takeStanding hs raw
      · exact hs
    · exact keeps.takeRun hs raw

end KeptByPackets

/-! ### Commands -/

/-- R106 to R108: the command passes stages 3 to 6 of Table 6-3. -/
structure PassesStages (s : State) (mode : Word) (c : Command) : Prop where
  available : availableIn c s.node = true
  checked : s.ownerCheck mode c = none
  room : needsEntry c = true → hasFreeEntry s.queue.entries = true

theorem lateStages_eq_accepted {s : State} {mode code : Word} {params : List Word} {c : Command}
    (h : s.lateStages mode code params = .accepted c) : PassesStages s mode c := by
  unfold State.lateStages at h
  split at h
  · cases h
  · split at h
    · cases h
    · next hav =>
      split at h
      · cases h
      · next hcheck =>
        split at h
        · cases h
        · next hroom =>
          cases h
          exact ⟨by simpa using hav, hcheck, fun hn => by simpa [hn] using hroom⟩

/-- What a property of the state must keep to be kept by every CONTROL packet that concerns the node: it does not speak
of the Command Unit, and a reply appended where there is room, a COMMIT refused and a command carried out keep it. -/
structure KeptByCommands (P : State → Prop) : Prop where
  commands : ∀ s c, P s → P { s with commands := c }
  reply : ∀ s r, hasFreeEntry s.queue.entries = true → P s → P { s with queue := s.queue.append (.record r) }
  refusedCommit : ∀ s kind, P s → P (s.refusedCommit kind)
  perform : ∀ s opening mode c, PassesStages s mode c → P s → P (s.perform opening c)

/-- R108, R109: a command that makes a reply needs an entry and has no other effect. -/
theorem replyTo_eq_some {s u : State} {opening : Word} {c : Command} {r : Record}
    (h : s.replyTo opening c = some r) : needsEntry c = true ∧ u.perform opening c = u := by
  cases c with
  | identify | readTable | readStatus | readTemperature => exact ⟨rfl, rfl⟩
  | _ => cases h

namespace KeptByCommands

variable {P : State → Prop} (keeps : KeptByCommands P)
include keeps

theorem carryOut {s : State} {opening mode : Word} {c : Command} (hc : PassesStages s mode c) (hs : P s) :
    P (s.carryOut opening c) := by
  unfold State.carryOut
  cases hr : s.replyTo opening c with
  | none => exact keeps.perform s opening mode c hc hs
  | some r =>
    obtain ⟨hneeds, hsame⟩ := replyTo_eq_some (u := s) hr
    rw [hsame]
    exact keeps.reply s r (hc.room hneeds) hs

theorem afterRefusal {s : State} (hs : P s) (code : Word) (params : List Word) : P (s.afterRefusal code params) := by
  unfold State.afterRefusal
  split
  · split
    · exact keeps.refusedCommit s _ hs
    · exact hs
  · exact hs

theorem replay {s : State} (hs : P s) : P s.replay.1 := by
  unfold State.replay
  split
  · exact hs
  · split
    · next hroom => exact keeps.reply s _ hroom hs
    · exact hs

theorem unicast {s : State} (hs : P s) (h : Header) (code : Word) (params : List Word) :
    P (s.unicast h code params).1 := by
  unfold State.unicast
  split
  · exact hs
  · split
    · exact keeps.replay hs
    · exact keeps.commands _ _ hs
    · split
      · exact keeps.afterRefusal hs code params
      · next hv =>
        obtain ⟨hav, hcheck, hroom⟩ := lateStages_eq_accepted hv
        exact keeps.commands _ _ (keeps.carryOut (mode := h.mode) ⟨hav, hcheck, hroom⟩ (keeps.commands _ _ hs))

theorem multicast {s : State} (hs : P s) (h : Header) (code : Word) (params : List Word) :
    P (s.multicast h code params).1 := by
  unfold State.multicast
  split
  · exact hs
  · split
    · exact keeps.afterRefusal hs code params
    · next hv =>
      obtain ⟨hav, hcheck, hroom⟩ := lateStages_eq_accepted hv
      exact keeps.carryOut (mode := h.mode) ⟨hav, hcheck, hroom⟩ (keeps.commands _ _ hs)

/-- The induction over the CONTROL packets that concern the node. -/
theorem commandUnit {s : State} (hs : P s) (h : Header) (code : Word) (params : List Word) :
    P (s.commandUnit h code params).1 := by
  unfold State.commandUnit
  split
  · exact keeps.multicast hs h code params
  · exact keeps.unicast hs h code params

end KeptByCommands

/-! ### Rows -/

/-- A relation that holds of every row of the opcode table: of a run of words received, and of each event that is no
packet. -/
structure HoldsOfRows (R : State → State → Prop) : Prop where
  receive : ∀ s ws, R s (s.receive ws)
  hardReset : ∀ s, R s s.hardReset
  hardRelease : ∀ s, R s s.hardRelease
  gainLock : ∀ s, R s s.gainLock
  lossOfLock : ∀ s, R s s.lossOfLock
  linkNoticeTimerExpiry : ∀ s, R s s.linkNoticeTimerExpiry
  forwardHead : ∀ s, R s s.forwardHead
  sendFill : ∀ s, R s s.sendFill
  resetNodeTakesEffect : ∀ s, R s s.resetNodeTakesEffect
  holdTimerExpiry : ∀ s, R s s.holdTimerExpiry
  sampleTimerExpiry : ∀ s, R s s.sampleTimerExpiry
  sensorAnswer : ∀ s reading, R s (s.sensorAnswer reading)
  answerLimitExpiry : ∀ s, R s s.answerLimitExpiry
  refreshBoundary : ∀ s, R s s.refreshBoundary
  eraseCompletion : ∀ s, R s s.eraseCompletion
  programCompletion : ∀ s defects, R s (s.programCompletion defects)
  verifyCompletion : ∀ s, R s s.verifyCompletion
  loadCompletion : ∀ s, R s s.loadCompletion
  startupReadCompletion : ∀ s, R s s.startupReadCompletion

/-- The case split over the rows. -/
theorem HoldsOfRows.exec {R : State → State → Prop} (holds : HoldsOfRows R) {i : Instr} {s t : State}
    (h : Machine.exec i s = .next t) : R s t := by
  cases i with
  | hardResetAsserted => cases h; exact holds.hardReset s
  | hardResetRelease => cases h; exact holds.hardRelease s
  | lockGained => cases h; exact holds.gainLock s
  | lossOfLock => cases h; exact holds.lossOfLock s
  | linkNoticeTimerExpiry => cases h; exact holds.linkNoticeTimerExpiry s
  | forwardPacket => cases h; exact holds.forwardHead s
  | sendFill => cases h; exact holds.sendFill s
  | resetNodeTakesEffect => cases h; exact holds.resetNodeTakesEffect s
  | holdTimerExpiry => cases h; exact holds.holdTimerExpiry s
  | sampleTimerExpiry => cases h; exact holds.sampleTimerExpiry s
  | sensorAnswer reading => cases h; exact holds.sensorAnswer s reading
  | answerLimitExpiry => cases h; exact holds.answerLimitExpiry s
  | refreshBoundary => cases h; exact holds.refreshBoundary s
  | eraseCompletion => cases h; exact holds.eraseCompletion s
  | programCompletion defects => cases h; exact holds.programCompletion s defects
  | verifyCompletion => cases h; exact holds.verifyCompletion s
  | loadCompletion => cases h; exact holds.loadCompletion s
  | startupReadCompletion => cases h; exact holds.startupReadCompletion s
  | _ => rw [exec_words rfl] at h; cases h; exact holds.receive s _

/-- A property that every row keeps, and that does not speak of the commands that wait, is kept by every step. -/
theorem HoldsOfRows.step {P : State → Prop} (keeps : HoldsOfRows fun s t => P s → P t)
    (hpending : ∀ s rest, P s → P { s with pending := rest }) {s t : State} (hs : P s)
    (h : Machine.step s = .next t) : P t := by
  unfold Machine.step at h
  split at h
  · cases h
    exact hs
  · exact keeps.exec h (hpending s _ hs)

end Sys2Proof.Machine
end

section
/-! The Ring Interface's part of the invariants (R145 to R148, R157, R163): the loss record and its timer, the packet
that answers a RESET NODE, and what is held behind it. -/

namespace Sys2Proof.Machine

-- One theorem after another, as in the tests: side by side each would hold a thread and its stack.
set_option Elab.async false

/-! ### The send queue and what is held -/

/-- R118, R163: the answer to a RESET NODE is in the send queue, once, until it has left, and packets are held only while a
reset is outstanding. -/
def RingQueueOk (r : Ring) : Prop :=
  r.sendQueue.countP SendEntry.resets = (if r.resetPhase = .answered then 1 else 0) ∧
    (r.held ≠ [] → r.resetPhase ≠ .idle)

namespace RingQueueOk

variable {r : Ring}

theorem no_answer (h : RingQueueOk r) (hr : r.resetPhase ≠ .answered) : r.sendQueue.countP SendEntry.resets = 0 := by
  rw [h.1, if_neg hr]

/-- A packet that answers no RESET NODE joins the send queue. -/
theorem send (h : RingQueueOk r) (words : List Word) (own : Bool) :
    RingQueueOk { r with sendQueue := r.sendQueue ++ [⟨words, own, false⟩] } :=
  ⟨by simpa using h.1, h.2⟩

/-- The packet of a CONTROL command joins the send queue, marked where the command is RESET NODE. -/
theorem sendAnswer (h : RingQueueOk r) (hr : r.resetPhase = .idle) {r' : Ring} (hq : r'.sendQueue = r.sendQueue)
    (hh : r'.held = r.held) (hp : r'.resetPhase = .idle ∨ r'.resetPhase = .answered) (words : List Word) :
    RingQueueOk { r' with sendQueue := r'.sendQueue ++ [⟨words, false, r'.resetPhase == .answered⟩] } := by
  have hzero := h.no_answer (by simp [hr])
  have hheld : r.held = [] := by_contra fun hne => h.2 hne hr
  refine ⟨?_, fun hne => absurd (hh.trans hheld) hne⟩
  rcases hp with hp | hp <;> simp [hp, hq, hzero]

theorem hold (h : RingQueueOk r) (hr : r.resetPhase ≠ .idle) (w : Waiting) :
    RingQueueOk { r with held := r.held ++ [w] } :=
  ⟨h.1, fun _ => hr⟩

theorem withNotice (h : RingQueueOk r) (words : List Word) : RingQueueOk (r.withNotice words) := by
  unfold Ring.withNotice
  split
  · exact h.send words true
  · next hne => exact h.hold (h.2 hne) _

/-- R146: the ring without the notice placed last. -/
theorem of_withNotice {words : List Word} (h : RingQueueOk (r.withNotice words)) : RingQueueOk r := by
  unfold Ring.withNotice at h
  split at h
  · next hnil => exact ⟨by simpa using h.1, fun hne => absurd hnil hne⟩
  · exact ⟨h.1, fun _ => h.2 (by simp)⟩

/-- R163: the reset takes effect once its packet has left. -/
theorem reset (h : RingQueueOk r) (hr : r.resetPhase = .due) (d u l : Word) :
    RingQueueOk
      { r with resetPhase := .idle, damagedPackets := d, unknownPackets := u, linkLosses := l, held := [] } :=
  ⟨by simpa using h.no_answer (by simp [hr]), fun hne => absurd rfl hne⟩

/-- R149: every packet sent, the answer of a RESET NODE among them. -/
theorem sendAll (h : RingQueueOk r) :
    RingQueueOk
      { r with
        sendQueue := []
        resetPhase := if r.sendQueue.any SendEntry.resets then .due else r.resetPhase } := by
  obtain ⟨hcount, hheld⟩ := h
  constructor <;> dsimp only <;> split
  · simp
  · next hany =>
    have hnone : r.sendQueue.countP SendEntry.resets = 0 := by simpa using hany
    simpa [hnone] using hcount
  · simp
  · exact hheld

/-- R118, R149: the head of the send queue sent. -/
theorem sendHead (h : RingQueueOk r) {e : SendEntry} {es : List SendEntry} (hq : r.sendQueue = e :: es) :
    RingQueueOk
      { r with sendQueue := es, resetPhase := if e.resets then .due else r.resetPhase } := by
  obtain ⟨hcount, hheld⟩ := h
  rw [hq, List.countP_cons] at hcount
  cases he : e.resets
  · exact ⟨by simpa [he] using hcount, by simpa using hheld⟩
  · rw [he, if_pos rfl] at hcount
    have hzero : es.countP SendEntry.resets = 0 := by split at hcount <;> omega
    exact ⟨by simpa using hzero, by simp⟩

end RingQueueOk

/-! ### The link -/

/-- The link state, the loss record, its timer and the standing mark, which the handling of packets leaves alone. -/
structure SameLink (r r' : Ring) : Prop where
  link : r'.link = r.link
  loss : r'.loss = r.loss
  noticeTimer : r'.noticeTimer = r.noticeTimer
  standing : r'.standing = r.standing

theorem SameLink.refl (r : Ring) : SameLink r r := ⟨rfl, rfl, rfl, rfl⟩

theorem SameLink.withNotice (r : Ring) (words : List Word) : SameLink r (r.withNotice words) := by
  unfold Ring.withNotice
  split <;> exact ⟨rfl, rfl, rfl, rfl⟩

/-- What the handling of packets does to the Ring Interface, as far as its invariants speak of it. -/
structure RingMoves (s t : State) : Prop where
  pin : t.resetPin = s.resetPin
  link : SameLink s.ring t.ring
  queue : RingQueueOk s.ring → RingQueueOk t.ring

namespace RingMoves

variable {s t u : State}

theorem trans (h : RingMoves s t) (h' : RingMoves t u) : RingMoves s u where
  pin := h'.pin.trans h.pin
  link := ⟨h'.link.link.trans h.link.link, h'.link.loss.trans h.link.loss,
    h'.link.noticeTimer.trans h.link.noticeTimer, h'.link.standing.trans h.link.standing⟩
  queue := h'.queue ∘ h.queue

theorem of_ring_eq (hp : t.resetPin = s.resetPin) (hr : t.ring = s.ring) : RingMoves s t :=
  ⟨hp, hr ▸ SameLink.refl _, fun h => hr ▸ h⟩

theorem forward (s : State) (words : List Word) : RingMoves s (s.forward words) :=
  ⟨rfl, ⟨rfl, rfl, rfl, rfl⟩, fun h => h.send words false⟩

/-- An operation that leaves the ring alone, and the packet sent on. -/
theorem forward_of_ring_eq (hp : t.resetPin = s.resetPin) (hr : t.ring = s.ring) (words : List Word) :
    RingMoves s (t.forward words) :=
  (of_ring_eq hp hr).trans (forward t words)

theorem countDamaged (s : State) : RingMoves s s.countDamaged := ⟨rfl, ⟨rfl, rfl, rfl, rfl⟩, id⟩

theorem countUnknown (s : State) : RingMoves s s.countUnknown := ⟨rfl, ⟨rfl, rfl, rfl, rfl⟩, id⟩

theorem sendAll (s : State) : RingMoves s s.sendAll := ⟨rfl, ⟨rfl, rfl, rfl, rfl⟩, RingQueueOk.sendAll⟩

theorem placeOwn (s : State) (words : List Word) : RingMoves s (s.placeOwn words) := by
  refine ⟨rfl, ?_, fun h => ?_⟩ <;> rw [State.placeOwn_ring, placeOwn_eq]
  · exact SameLink.withNotice _ _
  · exact h.withNotice _

theorem emptyBuffer (s : State) : RingMoves s { s with ring := { s.ring with arriving := [] } } :=
  ⟨rfl, ⟨rfl, rfl, rfl, rfl⟩, id⟩

end RingMoves

/-! ### Commands and the ring -/

/-- What a CONTROL packet does to the Ring Interface before it is sent on: the counters cleared, or a RESET NODE
answered. -/
structure RingAtCommand (s t : State) : Prop where
  pin : t.resetPin = s.resetPin
  link : SameLink s.ring t.ring
  sendQueue : t.ring.sendQueue = s.ring.sendQueue
  held : t.ring.held = s.ring.held
  phase : t.ring.resetPhase = s.ring.resetPhase ∨ t.ring.resetPhase = .answered

namespace RingAtCommand

variable {s t u : State}

theorem of_ring_eq (h : RingAtCommand s t) (hp : u.resetPin = t.resetPin) (hr : u.ring = t.ring) : RingAtCommand s u := by
  obtain ⟨pin, link, sendQueue, held, phase⟩ := h
  exact ⟨hp.trans pin, hr ▸ link, hr ▸ sendQueue, hr ▸ held, hr ▸ phase⟩

theorem perform (h : RingAtCommand s t) (opening : Word) (c : Command) : RingAtCommand s (t.perform opening c) := by
  obtain ⟨pin, ⟨link, loss, timer, standing⟩, sendQueue, held, phase⟩ := id h
  cases c with
  | clearCounters => exact ⟨pin, ⟨link, loss, timer, standing⟩, sendQueue, held, phase⟩
  | resetNode => exact ⟨pin, ⟨link, loss, timer, standing⟩, sendQueue, held, .inr rfl⟩
  | _ => exact h.of_ring_eq (by simp [State.perform]) (by simp [State.perform])

/-- A CONTROL packet at the Command Unit. -/
theorem commandUnit (s : State) (h : Header) (code : Word) (params : List Word) :
    RingAtCommand s (s.commandUnit h code params).1 := by
  have keeps : KeptByCommands (RingAtCommand s) :=
    { commands := fun _ _ hu => hu.of_ring_eq rfl rfl
      reply := fun _ _ _ hu => hu.of_ring_eq rfl rfl
      refusedCommit := fun _ _ hu => hu.of_ring_eq (by simp) (by simp)
      perform := fun _ opening _ c _ hu => hu.perform opening c }
  exact keeps.commandUnit ⟨rfl, SameLink.refl _, rfl, rfl, .inl rfl⟩ h code params

end RingAtCommand

/-! ### The way of a packet -/

namespace RingMoves

variable {s : State}

theorem takeControl (hr : s.ring.resetPhase = .idle) (h : Header) (code : Word) (params : List Word) :
    RingMoves s (s.takeControl h code params) := by
  unfold State.takeControl
  split
  · obtain ⟨pin, ⟨link, loss, timer, standing⟩, sendQueue, held, phase⟩ := RingAtCommand.commandUnit s h code params
    exact ⟨pin, ⟨link, loss, timer, standing⟩,
      fun hq => hq.sendAnswer hr sendQueue held (by simpa [hr] using phase) _⟩
  · exact forward s _

theorem takeWellFormed (hr : s.ring.resetPhase = .idle) (raw : List Word) (p : Packet) :
    RingMoves s (s.takeWellFormed raw p) := by
  cases p with
  | fill _ _ => exact of_ring_eq rfl rfl
  | pixel _ _ _ _ _ _ => exact forward_of_ring_eq (by simp) (by simp) _
  | showFrame _ _ => exact forward_of_ring_eq (by simp) (by simp) _
  | control h code params => exact takeControl hr h code params
  | collect _ _ _ _ _ => exact forward_of_ring_eq (by simp) (by simp) _
  | enum _ _ => exact forward_of_ring_eq (by simp) (by simp) _
  | linkNotice _ _ _ _ => exact forward s _

theorem handle (hr : s.ring.resetPhase = .idle) (raw : List Word) : RingMoves s (s.handle raw) := by
  unfold State.handle
  split
  · unfold State.overrun
    split
    · exact of_ring_eq rfl rfl
    · exact countDamaged s
  · split
    · exact (countDamaged s).trans (forward _ _)
    · exact (countUnknown s).trans (forward _ _)
    · exact takeWellFormed hr raw _

theorem takeWhole (s : State) (raw : List Word) : RingMoves s (s.takeWhole raw) := by
  unfold State.takeWhole
  split
  · next hr => exact handle hr raw
  · next hr => exact ⟨rfl, ⟨rfl, rfl, rfl, rfl⟩, fun h => h.hold hr _⟩

theorem takeWaiting (s : State) : ∀ w : Waiting, RingMoves s (s.takeWaiting w)
  | .packet raw => takeWhole s raw
  | .notice words => placeOwn s words

theorem resetNodeTakesEffect (s : State) : RingMoves s s.resetNodeTakesEffect := by
  unfold State.resetNodeTakesEffect
  split
  · exact of_ring_eq rfl rfl
  · exact of_ring_eq rfl rfl
  · next hr =>
    have hreset : RingMoves s { s.nodeReset with ring := { s.nodeReset.ring with held := [] } } :=
      ⟨rfl, ⟨rfl, rfl, rfl, rfl⟩, fun h => h.reset hr _ _ _⟩
    exact List.foldlRecOn _ _ hreset fun u hu w _ => hu.trans (takeWaiting u w)

theorem clearTheWay (s : State) (turns : Nat) : RingMoves s (s.clearTheWay turns) := by
  induction turns generalizing s with
  | zero => exact sendAll s
  | succ turns ih =>
    unfold State.clearTheWay
    dsimp only
    split
    · exact ((sendAll s).trans (resetNodeTakesEffect _)).trans (ih _)
    · exact sendAll s

theorem takeRun (s : State) (raw : List Word) : RingMoves s (s.takeRun raw) := by
  unfold State.takeRun
  dsimp only
  split
  · exact (((emptyBuffer s).trans (clearTheWay _ _)).trans (countDamaged _)).trans (of_ring_eq rfl rfl)
  · exact (emptyBuffer s).trans (takeWhole _ raw)

end RingMoves

/-! ### The invariant -/

theorem RingOk.queue {s : State} (h : RingOk s) : RingQueueOk s.ring := by
  obtain ⟨-, -, -, hcount, hheld, -⟩ := h
  exact ⟨hcount, hheld⟩

theorem RingOk.pinned {s : State} (h : RingOk s) (hp : s.resetPin = true) : s.ring = resetRing := by
  obtain ⟨-, -, -, -, -, hpin⟩ := h
  exact hpin hp

/-- The handling of packets keeps the invariant while the pin is released. -/
theorem RingOk.moves {s t : State} (h : RingOk s) (hp : s.resetPin = false) (hm : RingMoves s t) : RingOk t := by
  obtain ⟨hcount, hheld⟩ := hm.queue h.queue
  obtain ⟨hloss, hlink, hstanding, -, -, -⟩ := h
  obtain ⟨pin, ⟨link, loss, timer, standing⟩, -⟩ := hm
  exact ⟨by rw [loss, timer]; exact hloss, by rw [loss, link]; exact hlink, by rw [loss, standing]; exact hstanding,
    hcount, hheld, fun he => by rw [pin, hp] at he; cases he⟩

/-- The invariant does not speak of the rest of the state. -/
theorem RingOk.of_ring_eq {s t : State} (h : RingOk s) (hp : t.resetPin = s.resetPin) (hr : t.ring = s.ring) :
    RingOk t := by
  unfold RingOk
  rw [hp, hr]
  exact h

/-- R146: the packet that stood received whole at the loss, handled as if the link were LOCKED. -/
theorem RingOk.takeStanding {s : State} (h : RingOk s) (hp : s.resetPin = false)
    (raw : List Word) : RingOk (s.takeStanding raw) := by
  unfold State.takeStanding
  split
  · exact h
  · next r notice htake =>
    have hring := (takeBack_eq_some _ _ _).mp htake
    obtain ⟨-, loss, timer, -⟩ := hring ▸ SameLink.withNotice r notice
    have hqueue : RingQueueOk r := (hring ▸ h.queue).of_withNotice
    have hmoves := RingMoves.takeRun { s with ring := { r with link := .locked, standing := false } } raw
    generalize State.takeRun _ raw = t at hmoves
    obtain ⟨tpin, ⟨-, tloss, ttimer, tstanding⟩, tqueue⟩ := hmoves
    have tqueue' : RingQueueOk { t.ring with link := .unlocked } := tqueue hqueue
    obtain ⟨hcount, hheld⟩ := tqueue'.withNotice notice
    obtain ⟨nlink, nloss, ntimer, nstanding⟩ := SameLink.withNotice { t.ring with link := .unlocked } notice
    obtain ⟨hloss, -, -, -, -, -⟩ := h
    rw [loss, timer, ← tloss, ← ttimer] at hloss
    unfold RingOk
    rw [State.placeOwn_ring, placeOwn_eq]
    refine ⟨by rw [nloss, ntimer]; exact hloss, fun _ => nlink, fun he => ?_, hcount, hheld, fun he => ?_⟩
    · rw [nstanding] at he
      exact absurd (tstanding.symm.trans he) (by simp)
    · exact absurd (tpin.symm.trans he) (by simp [hp])

theorem RingOk.receive {s : State} (h : RingOk s) (raw : List Word) : RingOk (s.receive raw) := by
  unfold State.receive
  split
  · exact h.of_ring_eq rfl rfl
  · next hp =>
    have hp : s.resetPin = false := by simpa using hp
    split
    · split
      · exact h.takeStanding hp raw
      · exact h
    · exact h.moves hp (RingMoves.takeRun s raw)

theorem RingOk.reset (s : State) (h : s.ring = resetRing) : RingOk s := by
  unfold RingOk
  rw [h]
  simp [resetRing]

/-- R146, R147: a LOST notice sent while UNLOCKED. -/
theorem RingOk.sendLost {s : State} (hq : RingQueueOk s.ring) (hl : s.ring.link = .unlocked) (hp : s.resetPin = false)
    (r : LossRecord) : RingOk (s.sendLost r) := by
  obtain ⟨hcount, hheld⟩ := hq
  unfold State.sendLost
  refine RingOk.moves (s := { s with ring := { s.ring with loss := some _, noticeTimer := some _ } }) ?_ hp
    (RingMoves.placeOwn _ _)
  exact ⟨by simp, fun _ => hl, fun _ => rfl, hcount, hheld, fun he => absurd he (by simp [hp])⟩

theorem RingOk.lossOfLock {s : State} (h : RingOk s) : RingOk s.lossOfLock := by
  unfold State.lossOfLock
  split
  · exact h
  · split
    · exact h
    · next hp =>
      unfold State.loseLock
      refine RingOk.sendLost ?_ rfl (by simpa using hp) _
      exact h.queue

theorem RingOk.linkNoticeTimerExpiry {s : State} (h : RingOk s) : RingOk s.linkNoticeTimerExpiry := by
  unfold State.linkNoticeTimerExpiry
  split
  · next hl hr =>
    refine RingOk.sendLost (s := { s with ring := { s.ring with standing := false } }) h.queue hl ?_ _
    by_contra hp
    rw [h.pinned (by simpa using hp)] at hr
    cases hr
  · exact h
  · exact h
  · exact h

/-- R148: lock gained with the loss record present. -/
theorem RingOk.restoreLock {s : State} (h : RingOk s) (hp : s.resetPin = false) (r : LossRecord) :
    RingOk (s.restoreLock r) := by
  unfold State.restoreLock
  obtain ⟨pin, ⟨link, loss, timer, standing⟩, queue⟩ := RingMoves.placeOwn
    { s with ring := { s.ring with link := .locked, standing := false, noticeTimer := none } }
    (State.linkNoticeWords { s with ring := { s.ring with link := .locked, standing := false, noticeTimer := none } }
      restoredCause r.nextRepeat)
  obtain ⟨hcount, hheld⟩ := queue h.queue
  exact ⟨by simpa using timer, fun he => (by cases he), fun he => absurd (standing.symm.trans he) (by simp), hcount, hheld,
    fun he => absurd (pin.symm.trans he) (by simp [hp])⟩

theorem RingOk.gainLock {s : State} (h : RingOk s) : RingOk s.gainLock := by
  unfold State.gainLock
  split
  · exact h
  · next hp =>
    have hp : s.resetPin = false := by simpa using hp
    split
    · exact h
    · next hl =>
      obtain ⟨hloss, -, -, hcount, hheld, -⟩ := h
      exact ⟨hloss, fun he => absurd he (by simp [hl]), fun he => (by cases he), hcount, hheld,
        fun he => absurd he (by simp [hp])⟩
    · exact h.restoreLock hp _

theorem RingOk.forwardHead {s : State} (h : RingOk s) : RingOk s.forwardHead := by
  unfold State.forwardHead
  split
  · exact h
  · next e es hq =>
    obtain ⟨hcount, hheld⟩ := h.queue.sendHead hq
    obtain ⟨hloss, hlink, hstanding, -, -, hpin⟩ := h
    exact ⟨hloss, hlink, hstanding, hcount, hheld, fun he => absurd hq (by rw [hpin he]; simp [resetRing])⟩

theorem RingOk.sendFill {s : State} (h : RingOk s) : RingOk s.sendFill := by
  unfold State.sendFill
  split
  · exact h
  · split
    · exact h.of_ring_eq rfl rfl
    · exact h

/-- R162: the pin released; the ring keeps its reset values. -/
theorem RingOk.hardRelease {s : State} (h : RingOk s) : RingOk s.hardRelease := by
  unfold State.hardRelease
  split
  · next hp => exact RingOk.reset _ (h.pinned hp)
  · exact h

theorem RingOk.resetNodeTakesEffect {s : State} (h : RingOk s) : RingOk s.resetNodeTakesEffect := by
  by_cases hp : s.resetPin = true
  · have hidle : s.ring.resetPhase = .idle := by rw [h.pinned hp]; rfl
    unfold State.resetNodeTakesEffect
    rw [hidle]
    exact h
  · exact h.moves (by simpa using hp) (RingMoves.resetNodeTakesEffect s)

end Sys2Proof.Machine
end

section
/-! What valid tables give (R11, R15, R16), and what a run written into a table keeps of it (R2, R12). -/

namespace Sys2Proof.Machine

-- One theorem after another, as in the tests: side by side each would hold a thread and its stack.
set_option Elab.async false

/-! ### Validation -/

theorem mem_tableOrder (t : TableName) : t ∈ tableOrder := by cases t <;> decide

/-- R15: validation passes where each table passes its ranges and its relations. -/
theorem validate_eq_none_iff (b : Bank) :
    validate b = none ↔ ∀ t, (rangeFailure t 0 (b.table t)).isNone = true ∧ relationFailure b t = none := by
  have htable (t : TableName) :
      tableFailure b t = none ↔ (rangeFailure t 0 (b.table t)).isNone = true ∧ relationFailure b t = none := by
    unfold tableFailure
    cases rangeFailure t 0 (b.table t) <;> simp
  simp only [validate, List.findSome?_eq_none_iff, Option.map_eq_none_iff, htable]
  exact ⟨fun h t => h t (mem_tableOrder t), fun h t _ => h t⟩

/-- Valid tables are in range. -/
theorem inRangeAll_of_valid {b : Bank} (h : validate b = none) : b.inRangeAll = true := by
  unfold Bank.inRangeAll
  exact List.all_eq_true.mpr fun t _ => ((validate_eq_none_iff b).mp h t).1

theorem inRangeAll_iff (b : Bank) : b.inRangeAll = true ↔ ∀ t, (rangeFailure t 0 (b.table t)).isNone = true := by
  unfold Bank.inRangeAll
  rw [List.all_eq_true]
  exact ⟨fun h t => h t (mem_tableOrder t), fun h t _ => h t⟩

theorem shaped_iff (b : Bank) : b.shaped = true ↔ ∀ t, (b.table t).length = t.entries := by
  unfold Bank.shaped
  simp only [List.all_eq_true, beq_iff_eq]
  exact ⟨fun h t => h t (mem_tableOrder t), fun h t _ => h t⟩

theorem relationFailure_of_valid {b : Bank} (h : validate b = none) (t : TableName) : relationFailure b t = none :=
  ((validate_eq_none_iff b).mp h t).2

/-- R16, TIMING: the fallback band of valid tables is in use. -/
theorem fallbackBand_lt {b : Bank} (h : validate b = none) : b.fallbackBand < b.bandCount := by
  have htiming : timingFailure b = none := relationFailure_of_valid h .timing
  unfold timingFailure at htiming
  split at htiming
  · assumption
  · cases htiming

/-- Valid tables have a band in use. -/
theorem bandCount_pos {b : Bank} (h : validate b = none) : 0 < b.bandCount := Nat.zero_lt_of_lt (fallbackBand_lt h)

theorem shaped_factory : factory.shaped = true := by decide +kernel

theorem validate_factory : validate factory = none := by decide +kernel

/-! ### Bands -/

/-- R73: a band placed afresh is in use. -/
theorem placeFresh_lt {b : Bank} (h : 0 < b.bandCount) (t : Int) : placeFresh b t < b.bandCount := by
  obtain ⟨hle, -, -⟩ := placeFreshFrom_spec b t (b.bandCount - 1)
  unfold placeFresh
  omega

/-- R72: a band placed with hysteresis, from a band in use, is in use. -/
theorem placeHysteresis_lt {b : Bank} {applied : Nat} (h : applied < b.bandCount) (t : Int) :
    placeHysteresis b t applied < b.bandCount := by
  obtain ⟨-, hup, -, -⟩ := placeUp_spec b t b.bandCount applied h
  obtain ⟨hdown, -, -⟩ := placeDown_spec b t (placeUp b t b.bandCount applied)
  unfold placeHysteresis
  omega

/-! ### A table written -/

theorem table_setTable (b : Bank) (t t' : TableName) (entries : List Word) :
    (b.setTable t entries).table t' = if t' = t then entries else b.table t' := by
  cases t <;> cases t' <;> rfl

theorem length_writeRun (entries values : List Word) (start : Nat) :
    (writeRun entries start values).length = entries.length := by
  simp [writeRun_eq]

theorem getElem_writeRun (entries values : List Word) (start i : Nat) (hi : i < (writeRun entries start values).length) :
    (writeRun entries start values)[i] =
      if start ≤ i ∧ i < start + values.length then values.getD (i - start) 0 else entries.getD i 0 := by
  simp [writeRun_eq]

/-- R2, R12: a run in range written into a table in range. -/
theorem rangeFailure_writeRun {t : TableName} {entries values : List Word} {start : Nat}
    (he : (rangeFailure t 0 entries).isNone = true) (hv : (rangeFailure t start values).isNone = true) :
    (rangeFailure t 0 (writeRun entries start values)).isNone = true := by
  rw [rangeFailure_isNone_iff] at he hv ⊢
  intro j hj
  rw [getElem_writeRun, Nat.zero_add]
  rw [length_writeRun] at hj
  split
  · next h =>
    have hlt : j - start < values.length := by omega
    have hget := hv (j - start) hlt
    rw [show start + (j - start) = j by omega] at hget
    rwa [List.getD_eq_getElem _ _ hlt]
  · have hget := he j hj
    rw [Nat.zero_add] at hget
    rwa [List.getD_eq_getElem _ _ hj]

/-- R1, R2: a bank whole and in range stays so when a run in range is written. -/
theorem shaped_setTable_writeRun {b : Bank} (h : b.shaped = true) (t : TableName) (start : Nat) (values : List Word) :
    (b.setTable t (writeRun (b.table t) start values)).shaped = true := by
  rw [shaped_iff] at h ⊢
  intro t'
  rw [table_setTable]
  split
  · next e => rw [length_writeRun, h, e]
  · exact h t'

theorem inRangeAll_setTable_writeRun {b : Bank} (h : b.inRangeAll = true) {t : TableName} {start : Nat}
    {values : List Word} (hv : runInRange t start values = true) :
    (b.setTable t (writeRun (b.table t) start values)).inRangeAll = true := by
  rw [inRangeAll_iff] at h ⊢
  intro t'
  rw [table_setTable]
  split
  · next e => subst e; exact rangeFailure_writeRun (h _) hv
  · exact h t'

/-- R9: the dirty set with a table added. -/
theorem isDirty_withDirty (d : BitVec 6) (t t' : TableName) :
    isDirty (withDirty d t) t' = (isDirty d t' || decide (t' = t)) := by
  cases t <;> cases t' <;> simp [isDirty, withDirty, tableBit]

theorem isDirty_zero (t : TableName) : isDirty 0 t = false := by cases t <;> rfl

theorem isDirty_allDirty (t : TableName) : isDirty allDirty t = true := by cases t <;> rfl

/-! ### Images -/

/-- R81: what a VALID image holds. -/
theorem tables_of_judged_valid {m : Image} {g : BitVec 32} (h : m.judged = .valid g) :
    ∃ tables, m.tables = some tables ∧ 1 ≤ g.toNat ∧ tables.shaped = true ∧ validate tables = none := by
  unfold Image.judged at h
  split at h
  · cases h
  · cases h
  · next g' tables check =>
    split at h
    · next hv =>
      obtain ⟨-, hg, hs, hval⟩ := hv
      cases h
      exact ⟨tables, rfl, hg, hs, hval⟩
    · cases h

theorem judged_ne_unread (m : Image) : m.judged ≠ .unread := by
  unfold Image.judged
  split
  · simp
  · simp
  · split <;> simp

/-- R82: the newest valid image is VALID with its generation. -/
theorem record_of_newestOf {r0 r1 : ImageRecord} {i : ImageId} {g : BitVec 32} (h : newestOf r0 r1 = some (i, g)) :
    (match i with | .image0 => r0 | .image1 => r1) = .valid g := by
  unfold newestOf at h
  split at h
  · split at h <;> cases h <;> rfl
  all_goals cases h <;> rfl

/-- R92: the start-up read loads whole valid tables. -/
theorem startupTables_valid (st : Store) :
    st.startupTables.1.shaped = true ∧ validate st.startupTables.1 = none := by
  unfold Store.startupTables
  split
  · exact ⟨shaped_factory, validate_factory⟩
  · next i g hnewest =>
    have hrecord := record_of_newestOf hnewest
    have hjudged : (st.image i).judged = .valid g := by cases i <;> exact hrecord
    obtain ⟨tables, htables, -, hs, hv⟩ := tables_of_judged_valid hjudged
    rw [htables]
    exact ⟨hs, hv⟩

end Sys2Proof.Machine
end

section
/-! The invariant of the tables, the store, the bands and the node state, operation by operation (R1, R9 to R11, R74 to
R77, R81 to R91, R122, R164, R166). -/

namespace Sys2Proof.Machine

-- One theorem after another, as in the tests: side by side each would hold a thread and its stack.
set_option Elab.async false

/-! ### Reservations (R122) -/

theorem reservationCount_append (es : List Entry) (e : Entry) :
    reservationCount (es ++ [e]) = reservationCount es + if e.isReservation then 1 else 0 := by
  simp [reservationCount, List.countP_append, List.countP_cons]

/-- A notice is no reservation, and counting it makes none. -/
@[simp] theorem reservationCount_raise (q : ReplyQueue) (id : Identity) (k : NoticeKind) (detail : Option Word) :
    reservationCount (q.raise id k detail).entries = reservationCount q.entries := by
  have hcount (e : Entry) : (countInto k detail e).isReservation = e.isReservation := by
    unfold countInto
    split
    · split <;> rfl
    · rfl
    · rfl
  rcases q.raise_cases id k detail with ⟨-, h⟩ | ⟨-, ⟨-, h⟩ | ⟨-, ⟨-, h⟩ | ⟨-, ⟨-, h⟩ | ⟨-, h⟩⟩⟩⟩ <;> rw [h]
  · simp [reservationCount, List.countP_map, Function.comp_def, hcount]
  · simp [reservationCount_append, Entry.isReservation]

/-- R128: what is admitted from the backlog is no reservation. -/
theorem reservationCount_admitHeld (id : Identity) (held : List Held) (es : List Entry) :
    reservationCount (admitHeld id held es).1 = reservationCount es := by
  have hnotices (hs : List Held) :
      reservationCount (hs.map fun h => .record (id.notice h.kind h.count h.detail)) = 0 :=
    List.countP_eq_zero.mpr fun e he => by
      obtain ⟨h, -, rfl⟩ := List.mem_map.mp he
      simp [Entry.isReservation]
  rw [admitHeld_eq]
  unfold reservationCount at hnotices ⊢
  rw [List.countP_append, hnotices, Nat.add_zero]

/-- R131: a drain takes no reservation. -/
theorem reservationCount_drainWith (id : Identity) (fuel room : Nat) (q : ReplyQueue) :
    reservationCount (drainWith id fuel room q).1.entries = reservationCount q.entries := by
  induction fuel generalizing room q with
  | zero => rfl
  | succ fuel ih =>
    rcases drainWith_cases id fuel room q with ⟨r, rest, he, -, hd⟩ | ⟨hd, -⟩ <;> rw [hd]
    dsimp only
    rw [ih, reservationCount_admitHeld, he]
    simp [reservationCount, Entry.isReservation]

/-! ### Operations that leave all of it alone -/

/-- What the invariant speaks of is the same in both states. -/
structure SameCore (s t : State) : Prop where
  banks : t.banks = s.banks := by simp
  store : t.store = s.store := by simp
  reservations : reservationCount t.queue.entries = reservationCount s.queue.entries := by simp
  thermal : t.thermal = s.thermal := by simp
  node : t.node = s.node := by simp
  resetPin : t.resetPin = s.resetPin := by simp
  holdTimer : t.frames.holdTimer = s.frames.holdTimer := by simp
  presentation : t.frames.presentation = s.frames.presentation := by simp
  pattern : t.scan.pattern = s.scan.pattern := by simp

theorem CoreOk.of_same {s t : State} (h : CoreOk s) (hst : SameCore s t) : CoreOk t := by
  obtain ⟨banks, store, reservations, thermal, node, resetPin, holdTimer, presentation, pattern⟩ := hst
  simpa only [CoreOk, BanksOk, DirtyOk, ReservationOk, ThermalOk, NodeOk, banks, store, reservations, thermal, node,
    resetPin, holdTimer, presentation, pattern] using h

/-! ### One block changed -/

/-! ### What a commit leaves (R23, R77) -/

/-- R77: with BANDS in the dirty set a commit applies a band that its tables have in use, and otherwise none. -/
theorem afterCommit_thermal_cases (s : State) :
    (isDirty s.banks.dirty .bands = false ∧ (afterCommit s).thermal = s.thermal) ∨
      ∃ band, (afterCommit s).thermal = { s.thermal with applied := band, pending := none } ∧
        (validate s.banks.staged = none → band < s.banks.staged.bandCount) := by
  have hbands : isDirty s.banks.dirty .bands = s.banks.dirty.getLsbD 3 := rfl
  unfold afterCommit
  dsimp only
  rw [hbands]
  cases s.banks.dirty.getLsbD 3
  · exact .inl ⟨rfl, rfl⟩
  · refine .inr ⟨_, rfl, fun hv => ?_⟩
    split
    · exact placeFresh_lt (bandCount_pos hv) _
    · exact fallbackBand_lt hv

theorem afterCommit_reservations (s : State) :
    reservationCount (afterCommit s).queue.entries = reservationCount s.queue.entries := by
  unfold afterCommit
  dsimp only
  rw [reservationCount_raise, apply_ite ReplyQueue.entries, apply_ite reservationCount, reservationCount_raise, ite_self]

namespace CoreOk

variable {s : State}

/-- The live bank of the invariant is valid. -/
theorem live_valid (h : CoreOk s) : validate s.banks.live = none := by
  obtain ⟨⟨-, -, -, hv, -⟩, -⟩ := h
  exact hv

/-- R62, R160: in LOADING the Thermal Monitor holds its reset values. -/
theorem thermal_loading (h : CoreOk s) (hn : s.node = .loading) : s.thermal = resetThermal := by
  obtain ⟨-, -, -, -, -, -, hthermal, -⟩ := h
  exact hthermal hn

/-- R83: the store unit is STARTUP READ in LOADING only. -/
theorem loading_iff (h : CoreOk s) : s.node = .loading ↔ s.store.unit = .startupRead := by
  obtain ⟨-, -, -, -, -, hn, -⟩ := h
  exact hn

/-- The Thermal Monitor changed outside LOADING. -/
theorem withThermal (h : CoreOk s) (hn : s.node ≠ .loading) {th : Thermal} (ha : th.applied < s.banks.live.bandCount)
    (hp : ∀ b ∈ th.pending, b ≠ th.applied ∧ b < s.banks.live.bandCount)
    (hr : ∀ t ∈ th.reading, -80 ≤ t ∧ t ≤ 250) (ht : th.sampleTimer.isSome) : CoreOk { s with thermal := th } := by
  obtain ⟨hbanks, hdirty, hstore, hres, -, hload, -, hpin, -, hhold⟩ := h
  exact ⟨hbanks, hdirty, hstore, hres, ⟨ha, hp, hr⟩, hload, fun he => absurd he hn, hpin, fun _ => ht, hhold⟩

/-- The Frame Buffers changed. -/
theorem withFrames (h : CoreOk s) {f : Frames}
    (ht : f.holdTimer.isSome → s.node.showsPicture = true ∧ f.presentation ≠ .dark)
    (hl : s.node.showsPicture = true → f.presentation = .live → f.holdTimer.isSome) : CoreOk { s with frames := f } := by
  obtain ⟨hbanks, hdirty, hstore, hres, hthermal, hload, hloading, hpin, hsample, -, -, htest⟩ := h
  exact ⟨hbanks, hdirty, hstore, hres, hthermal, hload, hloading, hpin, hsample, ht, hl, htest⟩

/-- The Table Banks changed around the same live bank. -/
theorem withStaged (h : CoreOk s) {b : Banks} (hlive : b.live = s.banks.live) (hs : b.staged.shaped = true)
    (hr : b.staged.inRangeAll = true)
    (hc : b.commit.outstanding = true → validate b.staged = none ∧ s.store.unit.isReading = false)
    (hd : s.store.unit ≠ .startupRead → ∀ t, isDirty b.dirty t = false → b.staged.table t = b.live.table t) :
    CoreOk { s with banks := b } := by
  obtain ⟨⟨-, -, hls, hlv, -⟩, -, hstore, hres, hthermal, hnode⟩ := h
  refine ⟨⟨hs, hr, ?_, ?_, hc⟩, hd, hstore, hres, ?_, hnode⟩ <;> (try unfold ThermalOk) <;> dsimp only <;> rw [hlive]
  · exact hls
  · exact hlv
  · exact hthermal

/-- The Table Store changed, and the reservations with it. -/
theorem withStore (h : CoreOk s) {st : Store} {q : ReplyQueue} (hs : StoreOk st)
    (hu : st.unit = .startupRead ↔ s.store.unit = .startupRead)
    (hr : st.unit.isReading = true → s.banks.commit.outstanding = false)
    (hq : reservationCount q.entries = if st.unit.isStoring || st.unit.isReading then 1 else 0) :
    CoreOk { s with store := st, queue := q } := by
  obtain ⟨⟨hss, hsr, hls, hlv, hc⟩, hdirty, -, -, hthermal, hload, hnode⟩ := h
  refine ⟨⟨hss, hsr, hls, hlv, fun ho => ⟨(hc ho).1, ?_⟩⟩, fun hne => hdirty (hu.not.mp hne), hs, hq, hthermal,
    hload.trans hu.symm, hnode⟩
  rw [Bool.eq_false_iff]
  intro he
  rw [hr he] at ho
  cases ho

theorem raise (h : CoreOk s) (k : NoticeKind) (detail : Option Word) : CoreOk (s.raise k detail) :=
  h.of_same {}

/-! ### Bands (R74, R75, R77) -/

theorem applyPending (h : CoreOk s) : CoreOk s.applyPending := by
  unfold State.applyPending
  split
  · exact h
  · next b hb =>
    have hn : s.node ≠ .loading := fun hn => by
      rw [h.thermal_loading hn] at hb
      cases hb
    have hcore := h
    obtain ⟨-, -, -, -, ⟨-, hpending, hreading⟩, -, -, -, hsample, -⟩ := h
    exact (hcore.withThermal (th := { s.thermal with applied := b, pending := none }) hn (hpending b hb).2
      (fun _ he => (nomatch he)) hreading (hsample hn)).raise _ _

theorem setPlaced (h : CoreOk s) (hn : s.node ≠ .loading) {b : Nat} (hb : b < s.banks.live.bandCount) :
    CoreOk (s.setPlaced b) := by
  have hcore := h
  obtain ⟨-, -, -, -, ⟨happlied, -, hreading⟩, -, -, -, hsample, -⟩ := h
  refine hcore.withThermal hn happlied (fun b' hb' => ?_) hreading (hsample hn)
  dsimp only at hb'
  split at hb'
  · cases hb'
  · next hne =>
    cases hb'
    exact ⟨hne, hb⟩

theorem applyAtMeasurement (h : CoreOk s) : CoreOk s.applyAtMeasurement := by
  unfold State.applyAtMeasurement
  split
  · exact h.applyPending
  · exact h

/-- R23, R77: a commit applied, with its staged bank valid, outside LOADING. -/
theorem afterCommit (h : CoreOk s) (hn : s.node ≠ .loading) (hv : validate s.banks.staged = none) :
    CoreOk (afterCommit s) := by
  obtain ⟨⟨hss, hsr, -, -, -⟩, hdirty, hstore, hres, hthermal, hload, -, hpin, hsample, hhold⟩ := h
  obtain ⟨happlied, hpending, hreading⟩ := hthermal
  have hthermal : ThermalOk (Machine.afterCommit s) ∧ (Machine.afterCommit s).thermal.sampleTimer.isSome := by
    have hlive : (Machine.afterCommit s).banks.live = s.banks.staged := rfl
    unfold ThermalOk
    rw [hlive]
    rcases afterCommit_thermal_cases s with ⟨hclean, hth⟩ | ⟨band, hth, hband⟩ <;> rw [hth]
    · have hsame : s.banks.staged.bands = s.banks.live.bands := hdirty (hload.not.mp hn) .bands hclean
      have hcount : s.banks.staged.bandCount = s.banks.live.bandCount := by unfold Bank.bandCount; rw [hsame]
      rw [hcount]
      exact ⟨⟨happlied, hpending, hreading⟩, hsample hn⟩
    · exact ⟨⟨hband hv, fun _ he => (nomatch he), hreading⟩, hsample hn⟩
  exact ⟨⟨hss, hsr, hss, hv, fun ho => (nomatch ho)⟩, fun _ _ _ => rfl, hstore, (afterCommit_reservations s).trans hres,
    hthermal.1, hload, fun he => absurd he hn, hpin, fun _ => hthermal.2, hhold⟩

end CoreOk

end Sys2Proof.Machine
end

section
/-! The Table Store's part of the invariant: its images and records (R81 to R92). -/

namespace Sys2Proof.Machine

-- One theorem after another, as in the tests: side by side each would hold a thread and its stack.
set_option Elab.async false

/-! ### Images and records replaced -/

namespace Store

theorem record_setRecord (st : Store) (i j : ImageId) (r : ImageRecord) :
    (st.setRecord i r).record j = if j = i then r else st.record j := by
  cases i <;> cases j <;> rfl

theorem image_setImage (st : Store) (i j : ImageId) (m : Image) :
    (st.setImage i m).image j = if j = i then m else st.image j := by
  cases i <;> cases j <;> rfl

@[simp] theorem image_setRecord (st : Store) (i j : ImageId) (r : ImageRecord) :
    (st.setRecord i r).image j = st.image j := by
  cases i <;> cases j <;> rfl

@[simp] theorem record_setImage (st : Store) (i j : ImageId) (m : Image) :
    (st.setImage i m).record j = st.record j := by
  cases i <;> cases j <;> rfl

@[simp] theorem image_withUnit (st : Store) (u : StoreUnit) (i : ImageId) :
    ({ st with unit := u } : Store).image i = st.image i := by
  cases i <;> rfl

@[simp] theorem record_withUnit (st : Store) (u : StoreUnit) (i : ImageId) :
    ({ st with unit := u } : Store).record i = st.record i := by
  cases i <;> rfl

theorem record_of_newest {st : Store} {i : ImageId} {g : BitVec 32} (h : st.newest = some (i, g)) :
    st.record i = .valid g := by
  have := record_of_newestOf h
  cases i <;> exact this

/-- R84, R85: a generation that is not exhausted has a next one. -/
theorem newGeneration_pos {st : Store} (h : st.exhausted = false) : 1 ≤ st.newGeneration.toNat := by
  unfold exhausted at h
  unfold newGeneration
  split at h
  · decide
  · next g hg =>
    have hne : g ≠ 4294967295#32 := by simpa using h
    bv_omega

end Store

/-! ### The store's invariant -/

namespace StoreOk

variable {st : Store}

/-- Outside the start-up read no record is UNREAD. -/
theorem ne_unread (h : StoreOk st) (hu : st.unit ≠ .startupRead) (i : ImageId) : st.record i ≠ .unread := by
  obtain ⟨-, hunread, -, -⟩ := h
  exact (hunread i).not.mpr hu

/-- The unit becomes IDLE. -/
theorem idle (h : StoreOk st) (hu : st.unit ≠ .startupRead) : StoreOk { st with unit := .idle } := by
  have hne := h.ne_unread hu
  obtain ⟨hvalid, -, -, -⟩ := h
  refine ⟨fun i g => ?_, fun i => ?_, fun _ _ _ he => (nomatch he), fun _ he => (nomatch he)⟩
  · simpa using hvalid i g
  · simpa using hne i

/-- R86: ERASE begins in the target. -/
theorem beginErase (h : StoreOk st) (hu : st.unit = .idle) (he : st.exhausted = false) : StoreOk st.beginErase := by
  have hne := h.ne_unread (by simp [hu])
  obtain ⟨hvalid, -, -, -⟩ := h
  have hrecord (i : ImageId) : st.beginErase.record i = if i = st.target then .invalid else st.record i := by
    simp [Store.beginErase, Store.record_setRecord]
  have himage (i : ImageId) : st.beginErase.image i = if i = st.target then .unwritten else st.image i := by
    simp [Store.beginErase, Store.image_setImage]
  refine ⟨fun i g hi => ?_, fun i => ?_, fun p t g hst => ?_, fun _ hst => (nomatch hst)⟩
  · rw [hrecord] at hi
    split at hi
    · cases hi
    · next hit => rw [himage, if_neg hit]; exact hvalid i g hi
  · rw [hrecord]
    refine iff_of_false ?_ (by simp [Store.beginErase])
    split
    · simp
    · exact hne i
  · cases hst
    exact ⟨by rw [hrecord, if_pos rfl], Store.newGeneration_pos he, fun hp => (nomatch hp)⟩

/-- R90: a load begins from the newest valid image. -/
theorem beginRead (h : StoreOk st) (hu : st.unit = .idle) :
    StoreOk { st with unit := .reading (st.newest.map Prod.fst) } := by
  have hne := h.ne_unread (by simp [hu])
  obtain ⟨hvalid, -, -, -⟩ := h
  refine ⟨fun i g => ?_, fun i => ?_, fun _ _ _ he => (nomatch he), fun i he => ?_⟩
  · simpa using hvalid i g
  · simpa using hne i
  · obtain ⟨⟨i', g⟩, hnewest, rfl⟩ := Option.map_eq_some_iff.mp (StoreUnit.reading.inj he)
    exact ⟨g, by simpa using Store.record_of_newest hnewest⟩

/-- R86: ERASE ends and PROGRAM begins. -/
theorem program {t : ImageId} {g : BitVec 32} (h : StoreOk st) (hu : st.unit = .storing .erase t g) :
    StoreOk { st with unit := .storing .program t g } := by
  have hne := h.ne_unread (by simp [hu])
  obtain ⟨hvalid, -, hstoring, -⟩ := h
  obtain ⟨hinvalid, hg, -⟩ := hstoring _ _ _ hu
  refine ⟨fun i g => ?_, fun i => ?_, fun p t' g' he => ?_, fun _ he => (nomatch he)⟩
  · simpa using hvalid i g
  · simpa using hne i
  · cases he
    exact ⟨by simpa using hinvalid, hg, fun hp => (nomatch hp)⟩

/-- R87: PROGRAM ends, the target holds these tables, and VERIFY begins. -/
theorem verify {t : ImageId} {g : BitVec 32} (h : StoreOk st) (hu : st.unit = .storing .program t g) (tables : Bank) :
    StoreOk { st.setImage t (.programmed tables) with unit := .storing .verify t g } := by
  have hne := h.ne_unread (by simp [hu])
  obtain ⟨hvalid, -, hstoring, -⟩ := h
  obtain ⟨hinvalid, hg, -⟩ := hstoring _ _ _ hu
  refine ⟨fun i g hi => ?_, fun i => ?_, fun p t' g' he => ?_, fun _ he => (nomatch he)⟩
  · have hi : st.record i = .valid g := by simpa using hi
    have hit : i ≠ t := fun e => by
      rw [e, hinvalid] at hi
      cases hi
    simpa [Store.image_setImage, hit] using hvalid i g hi
  · simpa using hne i
  · cases he
    exact ⟨by simpa using hinvalid, hg, fun _ => ⟨tables, by simp [Store.image_setImage]⟩⟩

/-- R88: VERIFY finds the target as written, and its record becomes VALID. -/
theorem written {p : Phase} {t : ImageId} {g : BitVec 32} (h : StoreOk st) (hu : st.unit = .storing p t g) {tables : Bank}
    (hs : tables.shaped = true) (hv : validate tables = none) :
    StoreOk
      { (st.setImage t (.written g tables (imageCheck g tables))).setRecord t (.valid g) with unit := .idle } := by
  have hne := h.ne_unread (by simp [hu])
  obtain ⟨hvalid, -, hstoring, -⟩ := h
  obtain ⟨-, hg, -⟩ := hstoring _ _ _ hu
  refine ⟨fun i g' hi => ?_, fun i => ?_, fun _ _ _ he => (nomatch he), fun _ he => (nomatch he)⟩
  · by_cases hit : i = t
    · subst hit
      have hgg : ImageRecord.valid g = .valid g' := by simpa [Store.record_setRecord] using hi
      cases hgg
      simpa [Store.image_setImage] using judged_written hg hs hv
    · have hi : st.record i = .valid g' := by simpa [Store.record_setRecord, hit] using hi
      simpa [Store.image_setImage, hit] using hvalid i g' hi
  · simp only [Store.record_withUnit, Store.record_setRecord, Store.record_setImage, reduceCtorEq, iff_false]
    split
    · simp
    · exact hne i

/-- R92: the records as the start-up read judges the images. -/
theorem judged (st : Store) (defaults : Bool) :
    StoreOk
      { st with
        record0 := st.image0.judged
        record1 := st.image1.judged
        unit := .idle
        defaultsInUse := defaults } := by
  refine ⟨fun i g hi => ?_, fun i => ?_, fun _ _ _ he => (nomatch he), fun _ he => (nomatch he)⟩
  · cases i <;> exact hi
  · refine iff_of_false ?_ (by simp)
    cases i <;> exact judged_ne_unread _

theorem reset (image0 image1 : Image) : StoreOk (resetStore image0 image1) := by
  refine ⟨fun i _ hi => ?_, fun i => ?_, fun _ _ _ he => (nomatch he), fun _ he => (nomatch he)⟩
  · cases i <;> cases hi
  · cases i <;> exact ⟨fun _ => rfl, fun _ => rfl⟩

end StoreOk

end Sys2Proof.Machine
end

section
/-! The invariant of the tables, the store, the bands and the node state through commands, packets and events. -/

namespace Sys2Proof.Machine

-- One theorem after another, as in the tests: side by side each would hold a thread and its stack.
set_option Elab.async false

/-! ### What a command that passes its owner's checks has met (R12, R19, R84, R90, R165) -/

theorem tableOf_eq_some_iff (w : Word) (t : TableName) : tableOf w = some t ↔ w = tableCode t := by
  constructor
  · intro h
    unfold tableOf at h
    apply BitVec.eq_of_toNat_eq
    split at h <;> cases h
    all_goals
      next hw => rw [hw]; rfl
  · rintro rfl
    exact tableOf_tableCode t

theorem outstanding_eq_false_of_unlocked {s : State} (h : s.stagedLocked = false) :
    s.banks.commit.outstanding = false ∧ s.store.unit.isReading = false := by
  simpa [State.stagedLocked] using h

theorem checkWriteTable_eq_none {s : State} {table start : Word} {values : List Word}
    (h : s.checkWriteTable table start values = none) :
    ∃ t, tableOf table = some t ∧ s.stagedLocked = false ∧ runInRange t start.toNat values = true := by
  unfold State.checkWriteTable at h
  split at h
  · cases h
  · next t ht =>
    split at h
    · cases h
    · split at h
      · cases h
      · next hlock =>
        split at h
        · cases h
        · next hrun => exact ⟨t, ht, by simpa using hlock, by simpa using hrun⟩

theorem checkCommit_eq_none {s : State} {kind : Word} (h : s.checkCommit kind = none) :
    ∃ k, targetKindOf kind = some k ∧ s.stagedLocked = false ∧
      (k = .immediate → s.store.unit.isStoring = false) ∧ validate s.banks.staged = none := by
  unfold State.checkCommit at h
  split at h
  · cases h
  · next k hk =>
    split at h
    · cases h
    · next hlock =>
      split at h
      · cases h
      · next hstoring =>
        split at h
        · cases h
        · next hv => exact ⟨k, hk, by simpa using hlock, by simpa using hstoring, by simpa using hv⟩

theorem checkStoreTables_eq_none {s : State} (h : s.checkStoreTables = none) :
    s.store.unit = .idle ∧ s.store.exhausted = false := by
  unfold State.checkStoreTables at h
  split at h
  · cases h
  · next hidle =>
    split at h
    · cases h
    · next hex => exact ⟨by simpa using hidle, by simpa using hex⟩

theorem checkLoadStored_eq_none {s : State} (h : s.checkLoadStored = none) :
    s.banks.commit.outstanding = false ∧ s.store.unit = .idle := by
  unfold State.checkLoadStored at h
  split at h
  · cases h
  · next hout =>
    split at h
    · cases h
    · next hidle => exact ⟨by simpa using hout, by simpa using hidle⟩

theorem checkSetState_eq_none {target pattern red green blue : Word}
    (h : checkSetState target pattern red green blue = none) :
    ∃ t, targetStateOf target = some t ∧ t ≠ .loading ∧
      (t = .test → (selectedPattern t pattern red green blue).isSome = true) := by
  unfold checkSetState at h
  split at h
  · cases h
  · next t ht =>
    split at h
    · cases h
    · next hp =>
      refine ⟨t, ht, ?_, fun he => ?_⟩
      · rintro rfl
        unfold targetStateOf at ht
        split at ht <;> cases ht
      · have hne : patternOf pattern red green blue ≠ none := fun e => hp ⟨he, e⟩
        rw [selectedPattern, if_pos he]
        exact Option.isSome_iff_ne_none.mpr hne

/-- R107: outside LOADING are all the commands but IDENTIFY, READ STATUS and RESET NODE. -/
theorem ne_loading_of_available {c : Command} {n : NodeState} (h : availableIn c n = true)
    (hc : c ≠ .identify ∧ c ≠ .readStatus ∧ c ≠ .resetNode) : n ≠ .loading := by
  rintro rfl
  obtain ⟨h1, h2, h3⟩ := hc
  cases c with
  | identify => exact h1 rfl
  | readStatus => exact h2 rfl
  | resetNode => exact h3 rfl
  | _ => cases h

namespace CoreOk

variable {s : State}

/-! ### The Frame Buffers at a packet -/

theorem startLive (h : CoreOk s) (hn : s.node.showsPicture = true) : CoreOk s.startLive :=
  h.withFrames (fun _ => ⟨hn, fun e => nomatch e⟩) (fun _ _ => rfl)

theorem skipPending (h : CoreOk s) : CoreOk s.skipPending := by
  unfold State.skipPending
  split
  · exact h
  · exact h.of_same {}

theorem promote (h : CoreOk s) (k : Word) : CoreOk (s.promote k) :=
  h.skipPending.of_same { reservations := rfl, holdTimer := rfl, presentation := rfl }

theorem unmatched (h : CoreOk s) : CoreOk s.unmatched :=
  h.of_same { holdTimer := rfl, presentation := rfl }

theorem framesAtShow (h : CoreOk s) (k : Word) : CoreOk (s.framesAtShow k) := by
  have hshow : CoreOk { s with frames := { s.frames with lastShow := some k } } := h
  have hpicture (hn : s.node.showsPicture = true) :
      CoreOk (State.framesAtShow.showPicture k { s with frames := { s.frames with lastShow := some k } }) := by
    unfold State.framesAtShow.showPicture
    split
    · exact (hshow.promote k).startLive (by simpa using hn)
    · exact hshow.unmatched.startLive (by simpa using hn)
  unfold State.framesAtShow
  split
  · exact h
  · exact hshow
  · next hn => exact hpicture (by rw [hn]; rfl)
  · next hn => exact hpicture (by rw [hn]; rfl)

theorem takePixelPacket (h : CoreOk s) (frame line column count : Word) (samples : List Word) :
    CoreOk (s.takePixelPacket frame line column count samples) := by
  have htake {u : State} (hu : CoreOk u) (n : Word) (content : List Word) (ps : List TilePixel) :
      CoreOk (u.takePixels n content ps) :=
    hu.of_same { holdTimer := rfl, presentation := rfl }
  have hcompare (ps : List TilePixel) : CoreOk (s.comparePixels frame ps) := by
    unfold State.comparePixels
    split
    · exact htake h _ _ _
    · split
      · exact htake h _ _ _
      · split
        · exact htake (h.of_same {}) _ _ _
        · exact h.of_same {}
  unfold State.takePixelPacket
  split
  · split
    · exact h
    · exact hcompare _
  · exact h

/-! ### A SHOW at the Table Banks -/

/-- Table 1-8: an outstanding commit found due. -/
theorem afterDue (h : CoreOk s) (hn : s.node ≠ .loading) (ho : s.banks.commit.outstanding = true)
    (target : CommitTarget) : CoreOk (afterDue s target) := by
  have hcore := h
  obtain ⟨⟨hs, hr, -, -, hc⟩, hd, -⟩ := h
  unfold Machine.afterDue
  split
  · exact hcore.withStaged (b := { s.banks with commit := .deferred target }) rfl hs hr (fun _ => hc ho) hd
  · exact hcore.afterCommit hn (hc ho).1

theorem commitAtShow (h : CoreOk s) (hn : s.node ≠ .loading) (k : Word) : CoreOk (s.commitAtShow k) := by
  rw [commitAtShow_eq]
  unfold afterCommitTest
  split
  · exact h
  · next hc => exact h.afterDue hn (by rw [hc]; rfl) _
  · next hc => exact h.afterDue hn (by rw [hc]; rfl) _
  · next hc =>
    split
    · exact h.afterDue hn (by rw [hc]; rfl) _
    · exact h

theorem takeShow (h : CoreOk s) (k : Word) : CoreOk (s.takeShow k) := by
  unfold State.takeShow
  split
  · exact h
  · next hn => exact ((h.commitAtShow hn k).applyPending).framesAtShow k

theorem takeCollect (h : CoreOk s) (mode value capacity : Word) (used : Nat) :
    CoreOk (s.takeCollect mode value capacity used).1 := by
  refine h.of_same { reservations := ?_ }
  unfold State.takeCollect
  split
  · exact reservationCount_drainWith _ _ _ _
  · rfl

/-! ### Commands -/

theorem writeTable (h : CoreOk s) {table start : Word} {values : List Word}
    (hc : s.checkWriteTable table start values = none) : CoreOk (s.writeTable table start values) := by
  obtain ⟨t, ht, hlock, hrun⟩ := checkWriteTable_eq_none hc
  obtain ⟨hout, -⟩ := outstanding_eq_false_of_unlocked hlock
  have hcore := h
  obtain ⟨⟨hs, hr, -, -, -⟩, hd, -⟩ := h
  unfold State.writeTable
  rw [ht]
  refine hcore.withStaged (b := { s.banks with staged := _, dirty := _ }) rfl
    (shaped_setTable_writeRun hs _ _ _) (inRangeAll_setTable_writeRun hr hrun)
    (fun ho => absurd ho (by simp [hout])) (fun hu t' hclean => ?_)
  rw [isDirty_withDirty, Bool.or_eq_false_iff] at hclean
  obtain ⟨hclean, hne⟩ := hclean
  dsimp only
  rw [table_setTable, if_neg (by simpa using hne)]
  exact hd hu t' hclean

theorem copyLive (h : CoreOk s) (hlock : s.stagedLocked = false) : CoreOk s.copyLive := by
  obtain ⟨hout, -⟩ := outstanding_eq_false_of_unlocked hlock
  have hcore := h
  obtain ⟨⟨-, -, hs, hv, -⟩, -⟩ := h
  exact hcore.withStaged (b := { s.banks with staged := s.banks.live, dirty := 0 }) rfl hs (inRangeAll_of_valid hv)
    (fun ho => absurd ho (by simp [hout])) (fun _ _ _ => rfl)

/-- The commit record changed where the staged bank is unlocked and valid. -/
theorem withCommit (h : CoreOk s) {commit : CommitState}
    (hc : commit.outstanding = true → validate s.banks.staged = none ∧ s.store.unit.isReading = false)
    (failure : Option FailurePoint) :
    CoreOk { s with banks := { s.banks with commit := commit, lastFailure := failure } } := by
  have hcore := h
  obtain ⟨⟨hs, hr, -, -, -⟩, hd, -⟩ := h
  exact hcore.withStaged (b := { s.banks with commit := commit, lastFailure := failure }) rfl hs hr hc hd

theorem acceptCommit (h : CoreOk s) (hn : s.node ≠ .loading) {kind : Word} (frame : Word)
    (hc : s.checkCommit kind = none) : CoreOk (s.acceptCommit kind frame) := by
  obtain ⟨k, hk, hlock, -, hv⟩ := checkCommit_eq_none hc
  obtain ⟨-, hread⟩ := outstanding_eq_false_of_unlocked hlock
  unfold State.acceptCommit
  rw [hk]
  cases k with
  | next => exact h.withCommit (fun _ => ⟨hv, hread⟩) none
  | frame => exact h.withCommit (fun _ => ⟨hv, hread⟩) none
  | immediate =>
    dsimp only
    rw [applyCommit_eq]
    have hclear : CoreOk { s with banks := { s.banks with lastFailure := none } } := h
    exact hclear.afterCommit hn hv

theorem cancelCommit (h : CoreOk s) : CoreOk s.cancelCommit :=
  h.withCommit (commit := .none) (fun ho => (nomatch ho)) s.banks.lastFailure

theorem refusedCommit (h : CoreOk s) (kind : Word) : CoreOk (s.refusedCommit kind) := by
  unfold State.refusedCommit
  split
  · exact h
  · split
    · exact h
    · split
      · exact h
      · split
        · exact h
        · exact h

theorem reservations_idle (h : CoreOk s) (hu : s.store.unit = .idle) (w : Word) :
    reservationCount (s.reserve w).queue.entries = 1 := by
  obtain ⟨-, -, -, hres, -⟩ := h
  have hzero : reservationCount s.queue.entries = 0 := by
    simpa [ReservationOk, hu, StoreUnit.isStoring, StoreUnit.isReading] using hres
  simp [ReplyQueue.append, reservationCount_append, hzero, Entry.isReservation]

theorem storeTables (h : CoreOk s) (w : Word) (hc : s.checkStoreTables = none) : CoreOk (s.storeTables w) := by
  obtain ⟨hu, he⟩ := checkStoreTables_eq_none hc
  have hcore := h
  obtain ⟨-, -, hstore, -⟩ := h
  exact hcore.withStore (q := (s.reserve w).queue) (hstore.beginErase hu he)
    (by simp [Store.beginErase, hu]) (fun hr => (nomatch hr)) (hcore.reservations_idle hu w)

theorem loadStored (h : CoreOk s) (w : Word) (hc : s.checkLoadStored = none) : CoreOk (s.loadStored w) := by
  obtain ⟨hout, hu⟩ := checkLoadStored_eq_none hc
  have hcore := h
  obtain ⟨-, -, hstore, -⟩ := h
  exact hcore.withStore (q := (s.reserve w).queue) (hstore.beginRead hu) (by simp [hu]) (fun _ => hout)
    (hcore.reservations_idle hu w)

/-- R166: the node state and the pattern changed, between states that both show a picture or both do not. -/
theorem withNode (h : CoreOk s) (hn : s.node ≠ .loading) {n : NodeState} (hn' : n ≠ .loading) (p : Option Pattern)
    (f : Frames) (hp : n = .test → p.isSome)
    (ht : f.holdTimer.isSome → n.showsPicture = true ∧ f.presentation ≠ .dark)
    (hl : n.showsPicture = true → f.presentation = .live → f.holdTimer.isSome) (source : Source) :
    CoreOk { s with node := n, frames := f, scan := { s.scan with pattern := p, source := source } } := by
  obtain ⟨hbanks, hdirty, hstore, hres, hthermal, hload, -, hpin, hsample, -⟩ := h
  exact ⟨hbanks, hdirty, hstore, hres, hthermal, iff_of_false hn' (hload.not.mp hn), fun he => absurd he hn',
    fun he => absurd (hpin he) hn, fun _ => hsample hn, ht, hl, hp⟩

theorem setState (h : CoreOk s) (hn : s.node ≠ .loading) {target pattern red green blue : Word}
    (hc : checkSetState target pattern red green blue = none) :
    CoreOk (s.setState target pattern red green blue) := by
  obtain ⟨t, ht, hne, hp⟩ := checkSetState_eq_none hc
  have hcore := h
  obtain ⟨-, -, -, -, -, -, -, -, -, hhold, hlive, -⟩ := h
  unfold State.setState
  rw [ht]
  dsimp only
  unfold State.changePresentation
  split
  · next hshow =>
    obtain ⟨-, hshow⟩ := Bool.and_eq_true_iff.mp hshow
    exact hcore.withNode hn hne (selectedPattern t pattern red green blue) s.startLive.frames hp
      (fun _ => ⟨hshow, fun e => (nomatch e)⟩) (fun _ _ => rfl) s.scan.source
  · next hsame =>
    split
    · next hhide =>
      obtain ⟨-, hhide⟩ := Bool.and_eq_true_iff.mp hhide
      exact hcore.withNode hn hne (selectedPattern t pattern red green blue) { s.frames with holdTimer := none } hp
        (fun e => (nomatch e)) (fun e => absurd e (by simpa using hhide)) .dark
    · next hsame' =>
      have heq : t.showsPicture = s.node.showsPicture := by
        cases ht : t.showsPicture <;> cases hs : s.node.showsPicture <;> simp_all
      exact hcore.withNode hn hne (selectedPattern t pattern red green blue) s.frames hp (heq ▸ hhold) (heq ▸ hlive)
        s.scan.source

theorem setNotices (h : CoreOk s) (mask : Word) : CoreOk (s.setNotices mask) := by
  refine h.of_same { reservations := ?_ }
  unfold State.setNotices
  split <;> rfl

/-- A command that passes its stages, carried out. -/
theorem perform (h : CoreOk s) {opening mode : Word} {c : Command} (hp : PassesStages s mode c) :
    CoreOk (s.perform opening c) := by
  obtain ⟨hav, hcheck, -⟩ := hp
  have hn := ne_loading_of_available hav
  cases c with
  | identify => exact h
  | setIdentity logicalId groups =>
    dsimp only [State.perform]
    exact h.of_same {}
  | writeTable table start values => exact h.writeTable hcheck
  | readTable bank table start count => exact h
  | copyLive =>
    refine h.copyLive (Bool.eq_false_iff.mpr fun hl => ?_)
    simp [State.ownerCheck, hl] at hcheck
  | commit kind frame => exact h.acceptCommit (hn (by simp)) frame hcheck
  | cancelCommit => exact h.cancelCommit
  | storeTables => exact h.storeTables opening hcheck
  | loadStored => exact h.loadStored opening hcheck
  | readStatus => exact h
  | readTemperature => exact h
  | setState target pattern red green blue => exact h.setState (hn (by simp)) hcheck
  | setNotices mask => exact h.setNotices mask
  | clearCounters => exact h
  | resetNode => exact h

theorem nodeReset (h : CoreOk s) : CoreOk s.nodeReset := by
  obtain ⟨⟨hss, hsr, hls, hlv, -⟩, -⟩ := h
  exact ⟨⟨hss, hsr, hls, hlv, fun e => (nomatch e)⟩, fun e => absurd rfl e, StoreOk.reset _ _, rfl,
    ⟨bandCount_pos hlv, fun _ e => (nomatch e), fun _ e => (nomatch e)⟩, ⟨fun _ => rfl, fun _ => rfl⟩,
    fun _ => rfl, fun _ => rfl,
    fun e => absurd rfl e, fun e => (nomatch e), fun e => (nomatch e), fun e => (nomatch e)⟩

theorem keptByCommands : KeptByCommands CoreOk where
  commands _ _ h := h
  reply s r _ h := h.of_same { reservations := by simp [ReplyQueue.append, reservationCount_append, Entry.isReservation] }
  refusedCommit _ kind h := h.refusedCommit kind
  perform _ _ _ _ hp h := h.perform hp

theorem keptByPackets : KeptByPackets CoreOk where
  ring _ _ h := h
  out _ _ h := h
  pixel _ _ _ _ _ _ h := h.takePixelPacket _ _ _ _ _
  showFrame _ k h := h.takeShow k
  collect _ _ _ _ _ h := h.takeCollect _ _ _ _
  enum _ _ h := h.of_same {}
  control _ header code params h := keptByCommands.commandUnit h header code params
  nodeReset _ h := h.nodeReset

end CoreOk

end Sys2Proof.Machine
end

section
/-! The invariants through the events that are no packets, and the tier 3 statement: every step keeps them all. -/

namespace Sys2Proof.Machine

-- One theorem after another, as in the tests: side by side each would hold a thread and its stack.
set_option Elab.async false

namespace CoreOk

variable {s : State}

/-! ### Measurements (R68 to R71, R78) -/

theorem evaluateCutoff (h : CoreOk s) (hn : s.node ≠ .loading) (t : Int) : CoreOk (s.evaluateCutoff t) := by
  have hcut (c : Cutoff) : CoreOk { s with thermal := { s.thermal with cutoff := c } } := by
    have hcore := h
    obtain ⟨-, -, -, -, ⟨ha, hp, hr⟩, -, -, -, hsample, -⟩ := h
    exact hcore.withThermal (th := { s.thermal with cutoff := c }) hn ha hp hr (hsample hn)
  unfold State.evaluateCutoff
  split
  · split
    · exact ((hcut .cut).of_same (t := State.forceDark _) {}).raise _ _
    · exact h
  · split
    · exact (hcut .clear).raise _ _
    · exact h

/-- R70, R71: the reading and the sensor state of a measurement, its request ended. -/
theorem measured (h : CoreOk s) (hn : s.node ≠ .loading) {reading : Option Int} (sensor : Sensor) (request : Option Nat)
    (hr : ∀ t ∈ reading, -80 ≤ t ∧ t ≤ 250) :
    CoreOk { s with thermal := { s.thermal with reading := reading, sensor := sensor, request := request } } := by
  have hcore := h
  obtain ⟨-, -, -, -, ⟨ha, hp, -⟩, -, -, -, hsample, -⟩ := h
  exact hcore.withThermal (th := { s.thermal with reading := reading, sensor := sensor, request := request }) hn ha hp hr
    (hsample hn)

theorem placeReading_lt (h : CoreOk s) (t : Int) : s.placeReading t < s.banks.live.bandCount := by
  have hcore := h
  obtain ⟨-, -, -, -, ⟨ha, -, -⟩, -⟩ := h
  unfold State.placeReading
  split
  · exact placeFresh_lt (bandCount_pos hcore.live_valid) t
  · exact placeHysteresis_lt ha t

theorem endRequest_goodReading (h : CoreOk s) (hn : s.node ≠ .loading) {t : Int} (ht : -80 ≤ t ∧ t ≤ 250) :
    CoreOk (s.endRequest.goodReading t) := by
  have hmeasured := h.measured hn (reading := some t) .ok none fun t' ht' => by cases ht'; exact ht
  have hplaced := h.placeReading_lt t
  exact ((hmeasured.setPlaced hn hplaced).applyAtMeasurement).evaluateCutoff (by simpa using hn) t

theorem endRequest_measurementFault (h : CoreOk s) (hn : s.node ≠ .loading) (cause : Word) :
    CoreOk (s.endRequest.measurementFault cause) := by
  have hcore := h
  obtain ⟨-, -, -, -, ⟨-, -, hr⟩, -⟩ := h
  have hmeasured := (hcore.measured hn .fault none hr).raise .sensorFault (some cause)
  exact (hmeasured.setPlaced hn (fallbackBand_lt hcore.live_valid)).applyAtMeasurement

/-- R69: a request is outstanding outside LOADING only. -/
theorem ne_loading_of_request (h : CoreOk s) {limit : Nat} (hr : s.thermal.request = some limit) : s.node ≠ .loading :=
  fun hn => by
    rw [h.thermal_loading hn] at hr
    cases hr

theorem sensorAnswer (h : CoreOk s) (answer : Word) : CoreOk (s.sensorAnswer answer) := by
  unfold State.sensorAnswer
  split
  · exact h
  · next hr =>
    have hn := h.ne_loading_of_request hr
    split
    · next hin => exact h.endRequest_goodReading hn (by simpa [signedIn] using hin)
    · exact h.endRequest_measurementFault hn _

theorem answerLimitExpiry (h : CoreOk s) : CoreOk s.answerLimitExpiry := by
  unfold State.answerLimitExpiry
  split
  · exact h
  · next hr => exact h.endRequest_measurementFault (h.ne_loading_of_request hr) _

theorem sampleTimerExpiry (h : CoreOk s) : CoreOk s.sampleTimerExpiry := by
  have hcore := h
  unfold State.sampleTimerExpiry
  split
  · exact h
  · next ht =>
    have hn : s.node ≠ .loading := fun hn => by
      rw [h.thermal_loading hn] at ht
      cases ht
    have hrestart (request : Option Nat) :
        CoreOk { s with thermal :=
          { s.thermal with sampleTimer := some s.banks.live.sampleInterval, request := request } } := by
      obtain ⟨-, -, -, -, ⟨ha, hp, hr⟩, -⟩ := h
      exact hcore.withThermal
        (th := { s.thermal with sampleTimer := some s.banks.live.sampleInterval, request := request }) hn ha hp hr rfl
    dsimp only
    split
    · exact hrestart s.thermal.request
    · exact hrestart (some Config.answerLimit)

/-! ### The hold timer and the refresh boundary (R52, R55, R56) -/

theorem holdTimerExpiry (h : CoreOk s) : CoreOk s.holdTimerExpiry := by
  have hcore := h
  obtain ⟨-, -, -, -, -, -, -, -, -, hhold, -⟩ := h
  unfold State.holdTimerExpiry
  split
  · exact hcore
  · next ht hp =>
    obtain ⟨hshow, -⟩ := hhold (by rw [ht]; rfl)
    exact (hcore.withFrames (f := { s.frames with presentation := .hold, holdTimer := _ })
      (fun _ => ⟨hshow, fun e => (nomatch e)⟩) (fun _ e => (nomatch e))).raise _ _
  · have hdark : CoreOk { s with frames := { s.frames with presentation := .dark, holdTimer := none } } :=
      hcore.withFrames (f := { s.frames with presentation := .dark, holdTimer := none }) (fun e => (nomatch e))
        (fun _ e => (nomatch e))
    exact (hdark.of_same (t := State.forceDark _) {}).raise _ _
  · exact hcore

theorem refreshBoundary (h : CoreOk s) : CoreOk s.refreshBoundary := by
  have hpresent : s.frames.present.holdTimer = s.frames.holdTimer ∧
      s.frames.present.presentation = s.frames.presentation := by
    unfold Frames.present
    split <;> exact ⟨rfl, rfl⟩
  obtain ⟨hold, presentation⟩ := hpresent
  unfold State.refreshBoundary
  split
  · exact h
  · exact h.of_same { holdTimer := hold, presentation := presentation }

/-! ### The store's events (R86 to R91) -/

theorem eraseCompletion (h : CoreOk s) : CoreOk s.eraseCompletion := by
  have hcore := h
  obtain ⟨-, -, hstore, hres, -⟩ := h
  unfold State.eraseCompletion
  split
  case h_1 hu =>
    exact hcore.withStore (q := s.queue) (hstore.program hu) (by simp [hu]) (fun e => (nomatch e))
      (by simpa [ReservationOk, hu, StoreUnit.isStoring] using hres)
  all_goals exact hcore

theorem programCompletion (h : CoreOk s) (defects : List Defect) : CoreOk (s.programCompletion defects) := by
  have hcore := h
  obtain ⟨-, -, hstore, hres, -⟩ := h
  unfold State.programCompletion
  split
  case h_1 hu =>
    exact hcore.withStore (q := s.queue) (hstore.verify hu _) (by simp [hu]) (fun e => (nomatch e))
      (by simpa [ReservationOk, hu, StoreUnit.isStoring] using hres)
  all_goals exact hcore

theorem reservations_complete (q : ReplyQueue) (kind : ReplyKind) (result : List Word) :
    reservationCount (q.complete kind result).entries = 0 := by
  obtain ⟨-, -, hzero, -⟩ := q.complete_entries kind result
  exact hzero

theorem verifyCompletion (h : CoreOk s) : CoreOk s.verifyCompletion := by
  have hcore := h
  obtain ⟨⟨-, -, hs, hv, -⟩, -, hstore, -⟩ := h
  unfold State.verifyCompletion
  split
  case h_1 t g hu =>
    refine hcore.withStore (q := s.queue.complete _ _) ?_ (by simp [hu]) (fun e => (nomatch e))
      (reservations_complete _ _ _)
    split
    · exact hstore.written hu hs hv
    · exact hstore.idle (by simp [hu])
  all_goals exact hcore

/-- R91: a load completes, its source's tables in the staged bank. -/
theorem loadBank (h : CoreOk s) {source : Option ImageId} (hu : s.store.unit = .reading source) :
    CoreOk (s.loadBank source) := by
  have hcore := h
  obtain ⟨⟨-, -, -, -, hc⟩, -, ⟨hvalid, -, -, hsource⟩, -⟩ := h
  unfold State.loadBank
  cases source with
  | none => exact hcore
  | some i =>
    obtain ⟨g, hrecord⟩ := hsource i hu
    obtain ⟨tables, htables, -, hs, hv⟩ := tables_of_judged_valid (hvalid i g hrecord)
    dsimp only
    rw [htables]
    refine hcore.withStaged (b := { s.banks with staged := tables, dirty := allDirty }) rfl hs (inRangeAll_of_valid hv)
      (fun ho => ?_) (fun _ t hclean => absurd hclean (by simp [isDirty_allDirty]))
    obtain ⟨-, hread⟩ := hc ho
    simp [hu, StoreUnit.isReading] at hread

theorem loadCompletion (h : CoreOk s) : CoreOk s.loadCompletion := by
  unfold State.loadCompletion
  split
  case h_1 source hu =>
    have hload := h.loadBank hu
    obtain ⟨-, -, hstore, -⟩ := h
    refine hload.withStore (st := { s.store with unit := .idle }) (q := s.queue.complete _ _) (hstore.idle (by simp [hu]))
      (by simp [hu]) (fun e => (nomatch e)) (reservations_complete _ _ _)
  all_goals exact h

/-! ### Resets and the start-up read (R92, R162 to R164) -/

theorem hardReset (h : CoreOk s) : CoreOk s.hardReset := by
  obtain ⟨⟨hss, hsr, hls, hlv, -⟩, -⟩ := h
  exact ⟨⟨hss, hsr, hls, hlv, fun e => (nomatch e)⟩, fun e => absurd rfl e, StoreOk.reset _ _, rfl,
    ⟨bandCount_pos hlv, fun _ e => (nomatch e), fun _ e => (nomatch e)⟩, ⟨fun _ => rfl, fun _ => rfl⟩, fun _ => rfl,
    fun _ => rfl, fun e => absurd rfl e, fun e => (nomatch e), fun e => (nomatch e), fun e => (nomatch e)⟩

theorem hardRelease (h : CoreOk s) : CoreOk s.hardRelease := by
  unfold State.hardRelease
  split
  · obtain ⟨hbanks, hdirty, hstore, hres, hthermal, hload, hloading, -, hsample, hhold⟩ := h
    exact ⟨hbanks, hdirty, hstore, hres, hthermal, hload, hloading, fun e => (nomatch e), hsample, hhold⟩
  · exact h

/-- R92, R164: the node after the start-up read, in a start state and with the hold timer as that state has it. -/
theorem loadedAtStartup (h : CoreOk s) (hu : s.store.unit = .startupRead) (hp : s.resetPin = false) {n : NodeState}
    (hn : n = .active ∨ n = .standby) (f : Frames)
    (ht : f.holdTimer.isSome → n.showsPicture = true ∧ f.presentation ≠ .dark)
    (hl : n.showsPicture = true → f.presentation = .live → f.holdTimer.isSome) :
    CoreOk
      { s.loadAtStartup with
        node := n
        frames := f
        thermal :=
          { s.thermal with
            applied := s.store.startupTables.1.fallbackBand
            sampleTimer := some s.store.startupTables.1.sampleInterval } } := by
  obtain ⟨hs, hv⟩ := startupTables_valid s.store
  have hthermal := h.thermal_loading (h.loading_iff.mpr hu)
  obtain ⟨-, -, -, hres, -⟩ := h
  have hne : n ≠ .loading ∧ n ≠ .test := by rcases hn with rfl | rfl <;> decide
  refine ⟨⟨hs, inRangeAll_of_valid hv, hs, hv, fun e => (nomatch e)⟩, fun _ _ _ => rfl, StoreOk.judged _ _, ?_,
    ⟨fallbackBand_lt hv, ?_, ?_⟩, iff_of_false hne.1 (fun e => (nomatch e)), fun e => absurd e hne.1,
    fun e => absurd e (by simp [State.loadAtStartup, hp]), fun _ => rfl, ht, hl, fun e => absurd e hne.2⟩
  · exact hres.trans (by rw [hu]; rfl)
  · simp [hthermal, resetThermal]
  · simp [hthermal, resetThermal]

theorem startupReadCompletion (h : CoreOk s) : CoreOk s.startupReadCompletion := by
  unfold State.startupReadCompletion
  split
  · exact h
  · next hpin =>
    have hpin : s.resetPin = false := by simpa using hpin
    split
    case h_1 hu =>
      have hstopped : s.frames.holdTimer = none := by
        have hn := h.loading_iff.mpr hu
        obtain ⟨-, -, -, -, -, -, -, -, -, hhold, -⟩ := h
        by_contra hne
        obtain ⟨hshow, -⟩ := hhold (Option.isSome_iff_ne_none.mpr hne)
        rw [hn] at hshow
        cases hshow
      unfold State.leaveLoading
      by_cases hstart : s.loadAtStartup.banks.live.startsActive = true
      · simp only [hstart, if_true]
        exact h.loadedAtStartup hu hpin (.inl rfl) s.loadAtStartup.startLive.frames
          (fun _ => ⟨rfl, fun e => (nomatch e)⟩) (fun _ _ => rfl)
      · simp only [hstart]
        exact h.loadedAtStartup hu hpin (.inr rfl) s.frames (fun e => absurd e (by simp [hstopped]))
          (fun e => (nomatch e))
    all_goals exact h

end CoreOk

/-! ### The link and the outputs, which have no part in it -/

namespace SameCore

theorem gainLock (s : State) : SameCore s s.gainLock := by
  unfold State.gainLock
  split
  · exact {}
  · split
    · exact {}
    · exact {}
    · unfold State.restoreLock
      exact {}

theorem lossOfLock (s : State) : SameCore s s.lossOfLock := by
  unfold State.lossOfLock
  split
  · exact {}
  · split <;> exact {}

theorem linkNoticeTimerExpiry (s : State) : SameCore s s.linkNoticeTimerExpiry := by
  unfold State.linkNoticeTimerExpiry
  split <;> exact {}

theorem forwardHead (s : State) : SameCore s s.forwardHead := by
  unfold State.forwardHead
  split <;> exact {}

theorem sendFill (s : State) : SameCore s s.sendFill := by
  unfold State.sendFill
  split
  · exact {}
  · split <;> exact {}

end SameCore

/-! ### Every row -/

theorem CoreOk.holdsOfRows : HoldsOfRows fun s t => CoreOk s → CoreOk t where
  receive _ ws h := keptByPackets.receive h ws
  hardReset _ h := h.hardReset
  hardRelease _ h := h.hardRelease
  gainLock s h := h.of_same (SameCore.gainLock s)
  lossOfLock s h := h.of_same (SameCore.lossOfLock s)
  linkNoticeTimerExpiry s h := h.of_same (SameCore.linkNoticeTimerExpiry s)
  forwardHead s h := h.of_same (SameCore.forwardHead s)
  sendFill s h := h.of_same (SameCore.sendFill s)
  resetNodeTakesEffect _ h := keptByPackets.resetNodeTakesEffect h
  holdTimerExpiry _ h := h.holdTimerExpiry
  sampleTimerExpiry _ h := h.sampleTimerExpiry
  sensorAnswer _ reading h := h.sensorAnswer reading
  answerLimitExpiry _ h := h.answerLimitExpiry
  refreshBoundary _ h := h.refreshBoundary
  eraseCompletion _ h := h.eraseCompletion
  programCompletion _ defects h := h.programCompletion defects
  verifyCompletion _ h := h.verifyCompletion
  loadCompletion _ h := h.loadCompletion
  startupReadCompletion _ h := h.startupReadCompletion

theorem leaveLoading_resetPin (s : State) : s.leaveLoading.resetPin = s.resetPin := by
  unfold State.leaveLoading
  dsimp only
  split <;> rfl

theorem leaveLoading_ring (s : State) : s.leaveLoading.ring = s.ring := by
  unfold State.leaveLoading
  dsimp only
  split <;> rfl

theorem startupReadCompletion_resetPin (s : State) : s.startupReadCompletion.resetPin = s.resetPin := by
  unfold State.startupReadCompletion
  split
  · rfl
  · split
    case h_1 => exact leaveLoading_resetPin _
    all_goals rfl

theorem startupReadCompletion_ring (s : State) : s.startupReadCompletion.ring = s.ring := by
  unfold State.startupReadCompletion
  split
  · rfl
  · split
    case h_1 => exact leaveLoading_ring _
    all_goals rfl

theorem RingOk.holdsOfRows : HoldsOfRows fun s t => RingOk s → RingOk t where
  receive _ ws h := h.receive ws
  hardReset s _ := RingOk.reset s.hardReset rfl
  hardRelease _ h := h.hardRelease
  gainLock _ h := h.gainLock
  lossOfLock _ h := h.lossOfLock
  linkNoticeTimerExpiry _ h := h.linkNoticeTimerExpiry
  forwardHead _ h := h.forwardHead
  sendFill _ h := h.sendFill
  resetNodeTakesEffect _ h := h.resetNodeTakesEffect
  holdTimerExpiry _ h := h.of_ring_eq (by simp) (by simp)
  sampleTimerExpiry _ h := h.of_ring_eq (by simp) (by simp)
  sensorAnswer _ _ h := h.of_ring_eq (by simp) (by simp)
  answerLimitExpiry _ h := h.of_ring_eq (by simp) (by simp)
  refreshBoundary _ h := h.of_ring_eq (by simp) (by simp)
  eraseCompletion _ h := h.of_ring_eq (by simp) (by simp)
  programCompletion _ _ h := h.of_ring_eq (by simp) (by simp)
  verifyCompletion _ h := h.of_ring_eq (by simp) (by simp)
  loadCompletion _ h := h.of_ring_eq (by simp) (by simp)
  startupReadCompletion s h := h.of_ring_eq (startupReadCompletion_resetPin s) (startupReadCompletion_ring s)

/-- Settles O60: the two invariants do not lean on each other, and each is kept by every row. -/
theorem coreStaysOk : Obligations.CoreStaysOk := by
  intro s t hcore hring hstep
  exact ⟨CoreOk.holdsOfRows.step (fun _ _ h => h) hcore hstep, RingOk.holdsOfRows.step (fun _ _ h => h) hring hstep⟩

end Sys2Proof.Machine
end

section
/-! The Table Banks' commands (R12 to R23): what each leaves when it is accepted, and its refusals in their order. -/

namespace Sys2Proof.Machine

-- One theorem after another, as in the tests: side by side each would hold a thread and its stack.
set_option Elab.async false

/-! ### A command offered to the node -/

/-- The words of a command's row are its packet's. -/
theorem row_words (h : Header) (c : Command) : (c.row h).words = some (commandPacket h c).words := by
  cases c <;> rfl

/-- R106 to R109: a command that is available, passes its owner's checks and finds the entry it needs. -/
theorem exec_offered_accepted (c : Command) {s : State} {h : Header} (ho : Offered s h) (hw : c.wf = true)
    (ha : availableIn c s.node = true)
    (hc : s.ownerCheck h.mode c = none) (hn : needsEntry c = true → s.queue.entries.length < 12) :
    exec (c.row h) s = .next
      (acceptance (s.perform (openingWord h (c.code.toNat % 256)) c) h c
        ((atAcceptance s h).replyTo (openingWord h (c.code.toNat % 256)) c)) :=
  exec_accepted ho hw (row_words h c) (lateStages_accepted (c.parse_code hw) ha hc hn)

/-- R110: a refusal other than a COMMIT's leaves the node as it was. -/
theorem afterRefusal_eq_self (s : State) {c : Command} (hw : c.wf = true) (hc : ∀ kind frame, c ≠ .commit kind frame) :
    s.afterRefusal c.code c.params = s := by
  unfold State.afterRefusal
  rw [c.parse_code hw]
  cases c with
  | commit kind frame => exact absurd rfl (hc kind frame)
  | _ => rfl

/-- R107: a command the node state does not take. -/
theorem exec_offered_unavailable (c : Command) {s : State} {h : Header} (ho : Offered s h) (hw : c.wf = true)
    (ha : availableIn c s.node = false) :
    exec (c.row h) s = .next (refusal s h c.code c.params 5#16) := by
  have hsame : s.afterRefusal c.code c.params = s := by
    cases c with
    | commit kind frame =>
      unfold State.afterRefusal
      rw [Command.parse_code _ hw]
      dsimp only
      rw [ha]
      rfl
    | _ => exact afterRefusal_eq_self s hw (by simp)
  have hv := lateStages_unavailable (mode := h.mode) (c.parse_code hw) ha
  simpa [hsame, dispositionCode] using exec_refused ho (c.params_length hw) (row_words h c) hv

/-- R108: a command other than COMMIT that its owner refuses. -/
theorem exec_offered_refused (c : Command) {s : State} {h : Header} {d : Disposition} (ho : Offered s h)
    (hw : c.wf = true) (hn : s.node ≠ .loading) (hnc : ∀ kind frame, c ≠ .commit kind frame)
    (hc : s.ownerCheck h.mode c = some d) :
    exec (c.row h) s = .next (refusal s h c.code c.params (dispositionCode d)) := by
  have hv := lateStages_checked (c.parse_code hw) (availableIn_of_ne_loading hn hnc) hc
  simpa [afterRefusal_eq_self s hw hnc] using exec_refused ho (c.params_length hw) (row_words h c) hv

/-! ### Codes -/

theorem tableOf_eq_none {w : Word} (h : 5 < w.toNat) : tableOf w = none := by
  unfold tableOf
  split
  case h_7 => rfl
  all_goals omega

theorem bankIsLive_eq_none {w : Word} (h : 1 < w.toNat) : bankIsLive w = none := by
  unfold bankIsLive
  split
  case h_3 => rfl
  all_goals omega

theorem bankIsLive_eq_some {w : Word} (h : w.toNat ≤ 1) : bankIsLive w = some (decide (w = 1#16)) := by
  have hw : w = 0#16 ∨ w = 1#16 := by bv_omega
  rcases hw with rfl | rfl <;> rfl

theorem withDirty_eq (d : BitVec 6) (t : TableName) :
    withDirty d t = d ||| BitVec.ofNat 6 (2 ^ (tableCode t).toNat) := by
  cases t <;> rfl

/-! ### WRITE TABLE (R12) -/

theorem runInRange_iff (t : TableName) (start : Nat) (values : List Word) :
    runInRange t start values = true ↔ ∀ j, (hj : j < values.length) → EntryInRange t (start + j) values[j] := by
  simp only [runInRange, rangeFailure_isNone_iff, inRange_iff]

/-- R12: the owner's checks of a defined table, in order. -/
theorem checkWriteTable_tableCode (s : State) (t : TableName) (start : Word) (values : List Word) :
    s.checkWriteTable (tableCode t) start values =
      if t.entries < start.toNat + values.length then some .invalid
      else if s.stagedLocked then some .locked
      else if !runInRange t start.toNat values then some .invalid
      else none := by
  unfold State.checkWriteTable
  rw [tableOf_tableCode]

/-- R12: the run written, entry by entry, and the table joined to the dirty set. -/
theorem writeTable_tableCode (s : State) (t : TableName) (start : Word) (values : List Word) :
    s.writeTable (tableCode t) start values =
      { s with banks :=
        { s.banks with
          staged := s.banks.staged.setTable t
            ((List.range (s.banks.staged.table t).length).map fun i =>
              if start.toNat ≤ i ∧ i < start.toNat + values.length then values.getD (i - start.toNat) 0
              else (s.banks.staged.table t).getD i 0)
          dirty := s.banks.dirty ||| BitVec.ofNat 6 (2 ^ (tableCode t).toNat) } } := by
  unfold State.writeTable
  rw [tableOf_tableCode]
  dsimp only
  rw [writeRun_eq, withDirty_eq]

/-- Settles O20, check by check in R12's order. -/
theorem writeTableWrites : Obligations.WriteTableWrites := by
  intro h table start values s ho hn hmin hmax
  have hw : (Command.writeTable table start values).wf = true := by simp [Command.wf, hmin, hmax]
  have refused {d : Disposition} (hc : s.checkWriteTable table start values = some d) :
      exec (.writeTable h table start values) s =
        .next (refusal s h 0x10#16 (table :: start :: values) (dispositionCode d)) :=
    exec_offered_refused (.writeTable table start values) ho hw hn (by simp) hc
  refine ⟨fun hcode => refused (d := .invalid) ?_, ?_⟩
  · unfold State.checkWriteTable
    rw [tableOf_eq_none hcode]
  · rintro t rfl
    have hcheck := checkWriteTable_tableCode s t start values
    refine ⟨fun hout => ?_, fun hin hlock => ?_, fun hin hlock hrange => ?_, fun hin hlock hrange => ?_⟩
    · exact refused (d := .invalid) (by rw [hcheck, if_pos (Nat.lt_of_not_le hout)])
    · exact refused (d := .locked) (by rw [hcheck, if_neg (Nat.not_lt.mpr hin), if_pos ((stagedLocked_iff s).mpr hlock)])
    · have hrun : runInRange t start.toNat values = false := by
        rw [Bool.eq_false_iff]
        exact fun e => hrange ((runInRange_iff t _ _).mp e)
      exact refused (d := .invalid) (by rw [hcheck, if_neg (Nat.not_lt.mpr hin), stagedLocked_false hlock, hrun]; rfl)
    · have hrun := (runInRange_iff t start.toNat values).mpr hrange
      have hnone : s.checkWriteTable (tableCode t) start values = none := by
        rw [hcheck, if_neg (Nat.not_lt.mpr hin), stagedLocked_false hlock, hrun]; rfl
      dsimp only
      rw [← writeTable_tableCode]
      exact exec_offered_accepted (.writeTable (tableCode t) start values) ho hw
        (availableIn_of_ne_loading hn (by simp)) hnone (fun e => (nomatch e))

/-! ### READ TABLE (R13) -/

theorem checkReadTable_tableCode {bank : Word} (hb : bank.toNat ≤ 1) (t : TableName) (start count : Word) :
    checkReadTable bank (tableCode t) start count =
      if count.toNat < 1 ∨ Config.maxRead < count.toNat then some .invalid
      else if t.entries < start.toNat + count.toNat then some .invalid
      else none := by
  unfold checkReadTable
  rw [bankIsLive_eq_some hb, tableOf_tableCode]

theorem named_table {bank : Word} (hb : bank.toNat ≤ 1) (b : Banks) (t : TableName) :
    (b.named bank).table t = if bank = 1#16 then b.live.table t else b.staged.table t := by
  unfold Banks.named
  rw [bankIsLive_eq_some hb]
  by_cases h : bank = 1#16 <;> simp [h]

/-- R13: the entries reported are those of the named bank as they stand. -/
theorem readEntries_tableCode (s : State) {bank : Word} (hb : bank.toNat ≤ 1) (t : TableName) (start count : Word)
    (hlen : start.toNat + count.toNat ≤ (if bank = 1#16 then s.banks.live.table t else s.banks.staged.table t).length) :
    s.readEntries bank (tableCode t) start count =
      (List.range count.toNat).map fun j =>
        (if bank = 1#16 then s.banks.live.table t else s.banks.staged.table t).getD (start.toNat + j) 0 := by
  unfold State.readEntries
  rw [tableOf_tableCode]
  dsimp only
  rw [named_table hb, readRun_eq _ _ _ hlen]

/-- Settles O21, check by check in R13's order, the entry last. -/
theorem readTableReports : Obligations.ReadTableReports := by
  intro h bank table start count s ho hn
  have hav : availableIn (.readTable bank table start count) s.node = true := availableIn_of_ne_loading hn (by simp)
  have refused {d : Disposition} (hc : checkReadTable bank table start count = some d) :
      exec (.readTable h bank table start count) s =
        .next (refusal s h 0x11#16 [bank, table, start, count] (dispositionCode d)) :=
    exec_offered_refused (.readTable bank table start count) ho rfl hn (by simp) hc
  refine ⟨fun hcode => refused (d := .invalid) ?_, ?_⟩
  · unfold checkReadTable
    rcases hcode with hb | ht
    · rw [bankIsLive_eq_none hb]
    · rw [tableOf_eq_none ht]
      cases bankIsLive bank <;> rfl
  · rintro t hb rfl
    have hcheck := checkReadTable_tableCode hb t start count
    refine ⟨fun hbad => refused (d := .invalid) ?_, fun hmin hmax hin => ?_⟩
    · rw [hcheck]
      by_cases hcount : count.toNat < 1 ∨ 60 < count.toNat
      · rw [if_pos hcount]
      · rw [if_neg hcount, if_pos (by omega)]
    · have hnone : checkReadTable bank (tableCode t) start count = none := by
        rw [hcheck, if_neg (by simp only [Config.maxRead]; omega), if_neg (by omega)]
      refine ⟨fun hfull => ?_, fun hroom hlen => ?_⟩
      · have hv := lateStages_noEntry (s := s) (mode := h.mode) (c := .readTable bank (tableCode t) start count) rfl hav
          hnone rfl hfull
        exact exec_refused ho (by simp [Command.params]) rfl hv
      · have hacc := exec_offered_accepted (.readTable bank (tableCode t) start count) ho rfl hav hnone
          (fun _ => hroom)
        refine hacc.trans ?_
        have hentries := readEntries_tableCode (atAcceptance s h) hb t start count (hlen.symm ▸ hin)
        simp only [State.replyTo, hentries]
        rfl

/-! ### COPY LIVE and CANCEL COMMIT (R14, R22) -/

/-- Settles O22. -/
theorem copyLiveRestoresStaged : Obligations.CopyLiveRestoresStaged := by
  intro h s ho hn
  refine ⟨fun hlock => ?_, fun hlock => ?_⟩
  · have hnone : s.ownerCheck h.mode .copyLive = none := by simp [State.ownerCheck, stagedLocked_false hlock]
    exact exec_offered_accepted .copyLive ho rfl (availableIn_of_ne_loading hn (by simp)) hnone
      (fun e => (nomatch e))
  · have hsome : s.ownerCheck h.mode .copyLive = some .locked := by
      simp [State.ownerCheck, (stagedLocked_iff s).mpr hlock]
    exact exec_offered_refused .copyLive (d := .locked) ho rfl hn (by simp) hsome

/-- Settles O26: no owner's check and no entry stands in the way. -/
theorem cancelCommitWithdraws : Obligations.CancelCommitWithdraws := by
  intro h s ho hn
  exact exec_offered_accepted .cancelCommit ho rfl (availableIn_of_ne_loading hn (by simp)) rfl
    (fun e => (nomatch e))

/-! ### COMMIT (R17 to R21) -/

theorem targetKindOf_eq_none {kind : Word} (h : kind.toNat < 1 ∨ 3 < kind.toNat) : targetKindOf kind = none := by
  unfold targetKindOf
  split
  case h_4 => rfl
  all_goals omega

/-- Table 9-13: the three target kinds. -/
theorem targetKindOf_eq_some {kind : Word} (h1 : 1 ≤ kind.toNat) (h3 : kind.toNat ≤ 3) :
    ∃ k, targetKindOf kind = some k ∧ (k = .immediate ↔ kind = 3#16) := by
  have hkind : kind = 1#16 ∨ kind = 2#16 ∨ kind = 3#16 := by bv_omega
  rcases hkind with rfl | rfl | rfl
  · exact ⟨.next, rfl, by decide⟩
  · exact ⟨.frame, rfl, by decide⟩
  · exact ⟨.immediate, rfl, by decide⟩

/-- R107: outside LOADING, COMMIT is taken but for IMMEDIATE in ACTIVE. -/
theorem availableIn_commit {kind frame : Word} {n : NodeState} (hn : n ≠ .loading)
    (h : targetKindOf kind = some .immediate → n ≠ .active) : availableIn (.commit kind frame) n = true := by
  cases n with
  | loading => exact absurd rfl hn
  | standby => rfl
  | active => exact decide_eq_true fun e => h e rfl
  | test => rfl

/-- R19: a COMMIT past its availability that its owner refuses. -/
theorem exec_commit_refused {h : Header} {kind frame : Word} {s : State} {d : Disposition} (ho : Offered s h)
    (ha : availableIn (.commit kind frame) s.node = true) (hc : s.checkCommit kind = some d) :
    exec (.commit h kind frame) s =
      .next (refusal (s.refusedCommit kind) h 0x13#16 [kind, frame] (dispositionCode d)) := by
  have hv := lateStages_checked (s := s) (mode := h.mode) (c := .commit kind frame) rfl ha hc
  refine (exec_refused ho (by simp [Command.params]) rfl hv).trans ?_
  have hafter : s.afterRefusal (Command.commit kind frame).code (Command.commit kind frame).params =
      s.refusedCommit kind := by
    unfold State.afterRefusal
    rw [Command.parse_code (.commit kind frame) rfl]
    dsimp only
    rw [if_pos ha]
  rw [hafter]
  rfl

/-- R19: a COMMIT past its checks. -/
theorem exec_commit_accepted {h : Header} {kind frame : Word} {s : State} (ho : Offered s h)
    (ha : availableIn (.commit kind frame) s.node = true) (hc : s.checkCommit kind = none) :
    exec (.commit h kind frame) s =
      .next (acceptance (s.acceptCommit kind frame) h (.commit kind frame) none) :=
  exec_offered_accepted (.commit kind frame) ho rfl ha hc (fun e => (nomatch e))

/-- Settles O23. -/
theorem commitWaitsForShow : Obligations.CommitWaitsForShow := by
  intro h frame s ho hn hlock hv
  have hnext : s.checkCommit 1#16 = none := by simp [State.checkCommit, targetKindOf, stagedLocked_false hlock, hv]
  have hframe : s.checkCommit 2#16 = none := by simp [State.checkCommit, targetKindOf, stagedLocked_false hlock, hv]
  exact ⟨exec_commit_accepted ho (availableIn_commit hn (fun e => (nomatch e))) hnext,
    exec_commit_accepted ho (availableIn_commit hn (fun e => (nomatch e))) hframe⟩

/-- Settles O24: the effect of the acceptance is the commit application. -/
theorem commitImmediateApplies : Obligations.CommitImmediateApplies := by
  intro h frame s ho hstate hlock hstoring hv
  have hunit : s.store.unit.isStoring = false := by
    rw [Bool.eq_false_iff]
    intro e
    obtain ⟨phase, target, generation, hu⟩ := (isStoring_iff _).mp e
    exact hstoring phase target generation hu
  have hnone : s.checkCommit 3#16 = none := by
    simp [State.checkCommit, targetKindOf, stagedLocked_false hlock, hunit, hv]
  have hav : availableIn (.commit 3#16 frame) s.node = true := by rcases hstate with e | e <;> rw [e] <;> rfl
  have hacc := exec_commit_accepted ho hav hnone
  have heffect : s.acceptCommit 3#16 frame = afterCommit { s with banks := { s.banks with lastFailure := none } } :=
    applyCommit_eq { s with banks := { s.banks with lastFailure := none } }
  rwa [heffect] at hacc

end Sys2Proof.Machine
end

section
/-! Commit validation against the list of its checks (R15, R16), COMMIT's refusals (R17, R19), and the judgement of an
image (R81, R92, R164). -/

namespace Sys2Proof.Machine

-- One theorem after another, as in the tests: side by side each would hold a thread and its stack.
set_option Elab.async false

/-! ### The first check that fails -/

open Classical in
/-- R15: the failure point of the first check of a list that fails. -/
noncomputable def firstFailing : List Check → Option FailurePoint
  | [] => none
  | c :: cs => if c.holds then firstFailing cs else some c.point

theorem firstFailing_cons_of_holds {c : Check} (h : c.holds) (cs : List Check) :
    firstFailing (c :: cs) = firstFailing cs := if_pos h

theorem firstFailing_cons_of_fails {c : Check} (h : ¬ c.holds) (cs : List Check) :
    firstFailing (c :: cs) = some c.point := if_neg h

theorem firstFailing_append (cs ds : List Check) :
    firstFailing (cs ++ ds) = (firstFailing cs).or (firstFailing ds) := by
  induction cs with
  | nil => rfl
  | cons c cs ih =>
    rw [List.cons_append]
    by_cases h : c.holds
    · rw [firstFailing_cons_of_holds h, firstFailing_cons_of_holds h, ih]
    · rw [firstFailing_cons_of_fails h, firstFailing_cons_of_fails h]
      rfl

theorem firstFailing_eq_none_iff (cs : List Check) : firstFailing cs = none ↔ ∀ c ∈ cs, c.holds := by
  induction cs with
  | nil => simp [firstFailing]
  | cons c cs ih =>
    by_cases h : c.holds
    · simp [firstFailing_cons_of_holds h, ih, h]
    · simp [firstFailing_cons_of_fails h, h]

theorem firstFailing_eq_some_iff (cs : List Check) (p : FailurePoint) :
    firstFailing cs = some p ↔
      ∃ before c after, cs = before ++ c :: after ∧ (∀ x ∈ before, x.holds) ∧ ¬ c.holds ∧ c.point = p := by
  constructor
  · induction cs with
    | nil => exact fun h => (nomatch h)
    | cons c cs ih =>
      intro h
      by_cases hc : c.holds
      · rw [firstFailing_cons_of_holds hc] at h
        obtain ⟨before, d, after, rfl, hbefore, hd, hp⟩ := ih h
        exact ⟨c :: before, d, after, rfl, by simpa [hc] using hbefore, hd, hp⟩
      · rw [firstFailing_cons_of_fails hc] at h
        exact ⟨[], c, cs, rfl, by simp, hc, Option.some.inj h⟩
  · rintro ⟨before, c, after, rfl, hbefore, hc, rfl⟩
    rw [firstFailing_append, (firstFailing_eq_none_iff before).mpr hbefore, firstFailing_cons_of_fails hc]
    rfl

/-- Checks made one for each of a list, against a search of the same list. -/
theorem firstFailing_map {α : Type} (l : List α) (check : α → Check) (fails : α → Option FailurePoint)
    (h : ∀ a ∈ l, ((check a).holds ∧ fails a = none) ∨ (¬ (check a).holds ∧ fails a = some (check a).point)) :
    firstFailing (l.map check) = l.findSome? fails := by
  induction l with
  | nil => rfl
  | cons a l ih =>
    have ih := ih fun b hb => h b (List.mem_cons_of_mem a hb)
    rw [List.map_cons, List.findSome?_cons]
    rcases h a List.mem_cons_self with ⟨hc, hf⟩ | ⟨hc, hf⟩ <;> rw [hf]
    · rw [firstFailing_cons_of_holds hc, ih]
    · rw [firstFailing_cons_of_fails hc]

/-! ### The checks of each table -/

theorem rangeFailure_eq_findSome? (t : TableName) (entries : List Word) (start : Nat) :
    rangeFailure t start entries =
      (List.range entries.length).findSome? fun i =>
        if inRange t (start + i) (entries.getD i 0) then none else some (start + i) := by
  induction entries generalizing start with
  | nil => rfl
  | cons w ws ih =>
    rw [List.length_cons, List.range_succ_eq_map, List.findSome?_cons, List.findSome?_map]
    unfold rangeFailure
    cases hw : inRange t start w
    · simp [hw]
    · simp [hw, ih, Function.comp_def, Nat.add_assoc, Nat.add_comm 1]

/-- R2, R15: the ranges of a table. -/
theorem firstFailing_rangeChecks (t : TableName) (entries : List Word) :
    firstFailing (rangeChecks t entries) = (rangeFailure t 0 entries).map (FailurePoint.mk t) := by
  rw [rangeFailure_eq_findSome?, List.map_findSome?]
  unfold rangeChecks
  refine firstFailing_map _ _ _ fun i _ => ?_
  dsimp only [Function.comp]
  rw [Nat.zero_add, ← inRange_iff]
  cases inRange t i (entries.getD i 0) <;> simp

/-- R16: the knots of a colour are compared as pairs of neighbours. -/
def curveCheck (b : Bank) (pair : Nat × Nat) : Check :=
  ⟨⟨.curve, pair.1 * 33 + pair.2⟩, b.knot pair.1 (pair.2 - 1) ≤ b.knot pair.1 pair.2⟩

theorem curveChecks_eq_map (b : Bank) :
    curveChecks b =
      ((List.range 3).flatMap fun colour => (List.range 32).map fun k => (colour, k + 1)).map (curveCheck b) := by
  simp only [curveChecks, List.map_flatMap, List.map_map]
  rfl

/-- R16, CURVE. -/
theorem firstFailing_curveChecks (b : Bank) :
    firstFailing (curveChecks b) = (curveFailure b).map (FailurePoint.mk .curve) := by
  unfold curveFailure
  rw [curveChecks_eq_map, List.map_findSome?]
  refine firstFailing_map _ _ _ fun pair _ => ?_
  by_cases h : b.knot pair.1 pair.2 < b.knot pair.1 (pair.2 - 1)
  · exact .inr ⟨Nat.not_le.mpr h, by simp [h, curveCheck]⟩
  · exact .inl ⟨Nat.not_lt.mp h, by simp [h]⟩

/-- R16, BANDS: the thresholds. -/
theorem firstFailing_thresholds (b : Bank) :
    firstFailing ((List.range (b.bandCount - 2)).map fun j =>
      ⟨⟨.bands, j + 2⟩, b.threshold (j + 2) - b.threshold (j + 1) > b.hysteresis⟩) =
      (thresholdFailure b).map (FailurePoint.mk .bands) := by
  unfold thresholdFailure
  rw [List.map_findSome?]
  refine firstFailing_map _ _ _ fun j _ => ?_
  by_cases h : b.threshold (j + 2) - b.threshold (j + 1) > b.hysteresis
  · exact .inl ⟨h, by simp [h]⟩
  · exact .inr ⟨h, by simp [h]⟩

/-- R16, BANDS. -/
theorem firstFailing_bandsChecks (b : Bank) :
    firstFailing (bandsChecks b) = (bandsFailure b).map (FailurePoint.mk .bands) := by
  refine (firstFailing_append _ _).trans ?_
  refine (congrArg (Option.or · _) (firstFailing_thresholds b)).trans ?_
  unfold bandsFailure
  cases thresholdFailure b with
  | some i => rfl
  | none =>
    rw [Option.map_none, Option.none_or]
    dsimp only
    by_cases hcutoff : 1 < b.bandCount → b.cutoff > b.threshold (b.bandCount - 1) + b.hysteresis
    · rw [firstFailing_cons_of_holds hcutoff, if_neg (by simpa using hcutoff)]
      by_cases hlow : -80 ≤ b.cutoff - b.cutoffHysteresis
      · rw [firstFailing_cons_of_holds hlow, if_neg (Int.not_lt.mpr hlow)]
        rfl
      · rw [firstFailing_cons_of_fails hlow, if_pos (Int.not_le.mp hlow)]
        rfl
    · rw [firstFailing_cons_of_fails hcutoff, if_pos (by simpa using hcutoff)]
      rfl

/-- R16, TIMING. -/
theorem firstFailing_timingCheck (b : Bank) :
    firstFailing [⟨⟨.timing, 3⟩, (b.timing.getD 3 0).toNat < (b.bands.getD 0 0).toNat⟩] =
      (timingFailure b).map (FailurePoint.mk .timing) := by
  unfold timingFailure
  by_cases h : b.fallbackBand < b.bandCount
  · rw [firstFailing_cons_of_holds h, if_pos h]
    rfl
  · rw [firstFailing_cons_of_fails h, if_neg h]
    rfl

/-! ### Commit validation -/

/-- R15: within a table, ranges first and then relations. -/
theorem tableFailure_map (b : Bank) (t : TableName) :
    (tableFailure b t).map (FailurePoint.mk t) =
      (firstFailing (rangeChecks t (b.table t))).or ((relationFailure b t).map (FailurePoint.mk t)) := by
  rw [firstFailing_rangeChecks]
  unfold tableFailure
  cases rangeFailure t 0 (b.table t) <;> rfl

/-- R15: commit validation gives the first check that fails. -/
theorem validate_eq_firstFailing (b : Bank) : validate b = firstFailing (commitChecks b) := by
  have hcons (t : TableName) (ts : List TableName) (f : TableName → Option FailurePoint) :
      (t :: ts).findSome? f = (f t).or (ts.findSome? f) := by
    rw [List.findSome?_cons]
    cases f t <;> rfl
  unfold validate tableOrder commitChecks
  simp only [hcons, List.findSome?_nil, tableFailure_map, firstFailing_append, firstFailing_curveChecks,
    firstFailing_bandsChecks, firstFailing_timingCheck, relationFailure, Bank.table, Option.map_none, Option.or_none,
    Option.or_assoc]

theorem validate_eq_none_iff_passes (b : Bank) : validate b = none ↔ PassesValidation b := by
  rw [validate_eq_firstFailing]
  exact firstFailing_eq_none_iff _

theorem validate_eq_some_iff_failsAt (b : Bank) (p : FailurePoint) : validate b = some p ↔ FailsValidationAt b p := by
  rw [validate_eq_firstFailing]
  exact firstFailing_eq_some_iff _ p

/-! ### COMMIT refused (R19) -/

/-- R19: the owner's checks of a defined target kind, in order. -/
theorem checkCommit_of_kind {kind : Word} {k : TargetKind} (hk : targetKindOf kind = some k) (s : State) :
    s.checkCommit kind =
      if s.stagedLocked then some .locked
      else if k = .immediate ∧ s.store.unit.isStoring then some .busy
      else if (validate s.banks.staged).isSome then some .invalid
      else none := by
  unfold State.checkCommit
  rw [hk]

/-- R17, R19: what a refused COMMIT leaves. -/
theorem refusedCommit_of_kind {kind : Word} {k : TargetKind} (hk : targetKindOf kind = some k) (s : State) :
    s.refusedCommit kind =
      if s.stagedLocked then s
      else if k = .immediate ∧ s.store.unit.isStoring then s
      else
        match validate s.banks.staged with
        | none => s
        | some p => { s with banks := { s.banks with lastFailure := some p } } := by
  unfold State.refusedCommit
  rw [hk] <;> rfl

/-- Settles O25: validation against its checks, and COMMIT's refusals in R19's order. -/
theorem commitRefusals : Obligations.CommitRefusals := by
  refine ⟨fun b _ => ⟨validate_eq_none_iff_passes b, validate_eq_some_iff_failsAt b⟩, ?_⟩
  intro h kind frame s ho hn
  refine ⟨fun hkind => ?_, ?_, fun hmin hmax hactive => ?_⟩
  · have hk := targetKindOf_eq_none hkind
    have hcheck : s.checkCommit kind = some .invalid := by unfold State.checkCommit; rw [hk]
    have hsame : s.refusedCommit kind = s := by unfold State.refusedCommit; rw [hk]
    have hrefused := exec_commit_refused (frame := frame) ho (availableIn_commit hn (by simp [hk])) hcheck
    rwa [hsame] at hrefused
  · rintro rfl hstate
    have hav : availableIn (.commit 3#16 frame) s.node = false := by rw [hstate]; rfl
    exact exec_offered_unavailable (.commit 3#16 frame) ho rfl hav
  · obtain ⟨k, hk, himm⟩ := targetKindOf_eq_some hmin hmax
    have hav : availableIn (.commit kind frame) s.node = true :=
      availableIn_commit hn fun e => hactive (himm.mp (Option.some.inj (hk.symm.trans e)))
    have hcheck := checkCommit_of_kind hk s
    have hleaves := refusedCommit_of_kind hk s
    refine ⟨fun hlock => ?_, fun hlock => ⟨fun phase target generation hkind hunit => ?_, fun point hunit hv => ?_⟩⟩
    · have hlock := (stagedLocked_iff s).mpr hlock
      rw [if_pos hlock] at hcheck hleaves
      have hrefused := exec_commit_refused (frame := frame) ho hav hcheck
      rwa [hleaves] at hrefused
    · have hbusy : k = .immediate ∧ s.store.unit.isStoring = true := ⟨himm.mpr hkind, by rw [hunit]; rfl⟩
      rw [stagedLocked_false hlock, if_neg Bool.false_ne_true, if_pos hbusy] at hcheck hleaves
      have hrefused := exec_commit_refused (frame := frame) ho hav hcheck
      rwa [hleaves] at hrefused
    · have hfree : ¬ (k = .immediate ∧ s.store.unit.isStoring = true) := fun ⟨hkind, hstoring⟩ => by
        obtain ⟨phase, target, generation, e⟩ := (isStoring_iff _).mp hstoring
        exact hunit (himm.mp hkind) phase target generation e
      rw [stagedLocked_false hlock, if_neg Bool.false_ne_true, if_neg hfree, hv] at hcheck hleaves
      have hrefused := exec_commit_refused (frame := frame) ho hav hcheck
      rwa [hleaves] at hrefused

/-! ### Images and the start-up read (R81, R92, R164) -/

theorem imageCheck_eq (g : BitVec 32) (b : Bank) :
    imageCheck g b =
      crc ([(g >>> 16).setWidth 16, g.setWidth 16] ++ b.curve ++ b.gain ++ b.profile ++ b.bands ++ b.window ++
        b.timing) := by
  have hgeneration : generationWords g = [(g >>> 16).setWidth 16, g.setWidth 16] := rfl
  simp [imageCheck, hgeneration, tableOrder, Bank.table]

theorem judged_written_eq (g : BitVec 32) (tables : Bank) (check : Word) :
    (Image.written g tables check).judged =
      if check = imageCheck g tables ∧ 1 ≤ g.toNat ∧ tables.shaped = true ∧ validate tables = none then .valid g
      else .invalid := rfl

/-- R81: the judgement of an image. -/
theorem judged_eq_valid_iff (m : Image) (g : BitVec 32) : m.judged = .valid g ↔ ImageIsValid m g := by
  unfold ImageIsValid
  cases m with
  | unwritten => simp [Image.judged]
  | programmed tables => simp [Image.judged]
  | written g' tables check =>
    rw [judged_written_eq]
    simp only [← imageCheck_eq, ← validate_eq_none_iff_passes]
    constructor
    · intro h
      split at h
      · next hv =>
        obtain ⟨hcheck, hg, hs, hval⟩ := hv
        cases h
        exact ⟨tables, check, rfl, hg, hs, hval, hcheck⟩
      · cases h
    · rintro ⟨tables', check', heq, hg, hs, hval, hcheck⟩
      cases heq
      rw [if_pos ⟨hcheck, hg, hs, hval⟩]

theorem judged_eq_invalid {m : Image} (h : ∀ g, ¬ ImageIsValid m g) : m.judged = .invalid := by
  cases hm : m.judged with
  | unread => exact absurd hm (judged_ne_unread m)
  | invalid => rfl
  | valid g => exact absurd ((judged_eq_valid_iff m g).mp hm) (h g)

/-- R92, Table 5-2: the tables of the newest valid image. -/
theorem startupTables_of_newest {st : Store} {i : ImageId} {g : BitVec 32} {tables : Bank}
    (h : newestOf st.image0.judged st.image1.judged = some (i, g)) (ht : (st.image i).tables = some tables) :
    st.startupTables = (tables, false) := by
  unfold Store.startupTables
  rw [h]
  dsimp only
  rw [ht]

theorem startupTables_of_none {st : Store} (h : newestOf st.image0.judged st.image1.judged = none) :
    st.startupTables = (factory, true) := by
  unfold Store.startupTables
  rw [h]

/-- R92, R164: the start-up read's completion, from the tables it loads. -/
theorem startupReadCompletion_of_tables {s : State} {tables : Bank} {defaults : Bool} (hp : s.resetPin = false)
    (hu : s.store.unit = .startupRead) (ht : s.store.startupTables = (tables, defaults)) :
    s.startupReadCompletion =
      { s with
        banks := { s.banks with staged := tables, live := tables, dirty := 0#6, commit := .none }
        store :=
          { s.store with
            record0 := s.store.image0.judged
            record1 := s.store.image1.judged
            unit := .idle
            defaultsInUse := defaults }
        thermal :=
          { s.thermal with applied := tables.fallbackBand, sampleTimer := some tables.sampleInterval }
        node := if tables.startsActive = true then .active else .standby
        frames :=
          if tables.startsActive = true then
            { s.frames with presentation := .live, holdTimer := some tables.holdTime }
          else s.frames } := by
  unfold State.startupReadCompletion
  rw [if_neg (by simp [hp]), hu]
  unfold State.loadAtStartup State.leaveLoading
  rw [ht]
  dsimp only
  by_cases hstart : tables.startsActive = true
  · simp only [hstart, if_true]
    rfl
  · simp only [hstart]
    rfl

/-- Settles O8: the judgement is exact, and Table 5-2's rows give the tables that are loaded. -/
theorem startupReadLeavesLoading : Obligations.StartupReadLeavesLoading := by
  refine ⟨judged_eq_valid_iff, fun m => judged_eq_invalid, fun s tables defaults hp hu h => ?_⟩
  suffices ht : s.store.startupTables = (tables, defaults) from
    congrArg Host.Outcome.next (startupReadCompletion_of_tables hp hu ht)
  have hnewest := newestOf_eq s.store.image0.judged s.store.image1.judged
  cases ha : s.store.image0.judged with
  | unread => exact absurd ha (judged_ne_unread _)
  | invalid =>
    cases hb : s.store.image1.judged with
    | unread => exact absurd hb (judged_ne_unread _)
    | invalid =>
      rw [ha, hb] at h
      obtain ⟨rfl, rfl⟩ := h
      exact startupTables_of_none (hnewest.trans (by rw [ha, hb]))
    | valid b =>
      rw [ha, hb] at h
      obtain ⟨h, rfl⟩ := h
      exact startupTables_of_newest (i := .image1) (hnewest.trans (by rw [ha, hb])) h
  | valid a =>
    cases hb : s.store.image1.judged with
    | unread => exact absurd hb (judged_ne_unread _)
    | invalid =>
      rw [ha, hb] at h
      obtain ⟨h, rfl⟩ := h
      exact startupTables_of_newest (i := .image0) (hnewest.trans (by rw [ha, hb])) h
    | valid b =>
      rw [ha, hb] at h hnewest
      obtain ⟨h, rfl⟩ := h
      dsimp only at hnewest
      split at h
      · next hle => exact startupTables_of_newest (i := .image0) (by rw [ha, hb, hnewest, if_pos hle]) h
      · next hlt => exact startupTables_of_newest (i := .image1) (by rw [ha, hb, hnewest, if_neg hlt]) h

end Sys2Proof.Machine
end

section
/-! A SHOW outside and inside the picture (R24, R25, R48, R75), the correction's ranges (R38 to R40), the placement of
bands (R72, R73), a load's completion (R91), and what a store leaves alone (R86, R87, R93). -/

namespace Sys2Proof.Machine

-- One theorem after another, as in the tests: side by side each would hold a thread and its stack.
set_option Elab.async false

/-! ### A SHOW (R24, R25, R48, R75) -/

/-- The Table Banks' and the Thermal Monitor's parts of a SHOW do not touch the ring. -/
theorem commitAtShow_withRing (s : State) (r : Ring) (k : Word) :
    State.commitAtShow { s with ring := r } k = { s.commitAtShow k with ring := r } := by
  have hcommit : State.applyCommit { s with ring := r } = { s.applyCommit with ring := r } := by
    simp only [applyCommit_eq]
    rfl
  unfold State.commitAtShow
  dsimp only
  rw [hcommit]
  cases s.banks.commit with
  | none => rfl
  | pending target =>
    dsimp only
    split
    · split <;> rfl
    · rfl
  | deferred target =>
    dsimp only
    split <;> rfl

theorem applyPending_withRing (s : State) (r : Ring) :
    State.applyPending { s with ring := r } = { s.applyPending with ring := r } := by
  simp only [applyPending_eq, afterBand]
  cases s.thermal.pending <;> rfl

theorem applyPending_pending_none (s : State) : s.applyPending.thermal.pending = none := by
  unfold State.applyPending
  split
  · assumption
  · rfl

theorem commitAtShow_of_none {s : State} (h : s.banks.commit = .none) (k : Word) : s.commitAtShow k = s := by
  unfold State.commitAtShow
  rw [h]

theorem applyPending_of_none {s : State} (h : s.thermal.pending = none) : s.applyPending = s := by
  unfold State.applyPending
  rw [h]

/-- A SHOW taken in: what the blocks leave in their order, and the packet sent on. -/
theorem exec_showFrame {s : State} (hr : Receiving s) (attrs : BitVec 8) (k : Word) :
    exec (.showFrame attrs k) s =
      .next
        ((State.takeShow { s with ring := { s.ring with arriving := [] } } k).forward (Packet.showFrame attrs k).words) :=
  exec_wellFormed (p := .showFrame attrs k) rfl hr rfl

/-- The Frame Buffers' part of a SHOW in a state that the blocks before them have left, and the packet sent on. -/
def afterPicture (u : State) (attrs : BitVec 8) (k : Word) : State :=
  (State.framesAtShow { u with ring := { u.ring with arriving := [] } } k).forward (Packet.showFrame attrs k).words

/-- R24, R75: the Table Banks, then the Thermal Monitor, then the Frame Buffers. -/
theorem exec_showFrame_of_ne_loading {s : State} (hr : Receiving s) (hn : s.node ≠ .loading) (attrs : BitVec 8)
    (k : Word) :
    exec (.showFrame attrs k) s = .next (afterPicture (s.commitAtShow k).applyPending attrs k) := by
  rw [exec_showFrame hr]
  unfold State.takeShow afterPicture
  rw [if_neg hn, commitAtShow_withRing, applyPending_withRing, State.applyPending_ring, State.commitAtShow_ring]

theorem exec_showFrame_settled {s : State} (hr : Receiving s) (hn : s.node ≠ .loading) (hc : s.banks.commit = .none)
    (hp : s.thermal.pending = none) (attrs : BitVec 8) (k : Word) :
    exec (.showFrame attrs k) s = .next (afterPicture s attrs k) := by
  rw [exec_showFrame_of_ne_loading hr hn, commitAtShow_of_none hc, applyPending_of_none hp]

/-- Settles O46. -/
theorem showsOutsideThePicture : Obligations.ShowsOutsideThePicture := by
  intro attrs k s hr
  refine ⟨fun hn => ?_, fun hn => ?_⟩
  · rw [exec_showFrame hr]
    unfold State.takeShow
    rw [if_pos hn]
    rfl
  · rw [exec_showFrame_of_ne_loading hr (by simp [hn]), ← commitAtShow_eq, ← applyPending_eq]
    have hnode : (s.commitAtShow k).applyPending.node = .standby := by simpa using hn
    have hframes : (s.commitAtShow k).applyPending.frames = s.frames := by simp
    generalize (s.commitAtShow k).applyPending = u at hnode hframes
    unfold afterPicture State.framesAtShow
    dsimp only
    rw [hnode, ← hframes]
    rfl

/-- The picture's part of a SHOW does not touch the commit record. -/
theorem showPicture_withCommit (s : State) (k : Word) (c : CommitState) :
    State.framesAtShow.showPicture k { s with banks := { s.banks with commit := c } } =
      { State.framesAtShow.showPicture k s with banks := { s.banks with commit := c } } := by
  have hskip : State.skipPending { s with banks := { s.banks with commit := c } } =
      { s.skipPending with banks := { s.banks with commit := c } } := by
    unfold State.skipPending
    dsimp only
    split <;> rfl
  unfold State.framesAtShow.showPicture
  dsimp only
  split
  · unfold State.promote
    dsimp only
    rw [hskip]
    simp [State.startLive]
  · rfl

theorem framesAtShow_eq_showPicture {s : State} (hn : s.node = .active ∨ s.node = .test) (k : Word) :
    s.framesAtShow k =
      State.framesAtShow.showPicture k { s with frames := { s.frames with lastShow := some k } } := by
  unfold State.framesAtShow
  rcases hn with hn | hn <;> rw [hn]

theorem showPicture_frames (s : State) (k : Word) :
    (State.framesAtShow.showPicture k s).frames.presentation = .live ∧
      (State.framesAtShow.showPicture k s).frames.holdTimer = some s.banks.live.holdTime ∧
      (State.framesAtShow.showPicture k s).frames.lastShow = s.frames.lastShow := by
  have hskip : s.skipPending.frames.lastShow = s.frames.lastShow := by
    unfold State.skipPending
    split <;> rfl
  unfold State.framesAtShow.showPicture
  split
  · exact ⟨rfl, by simp, hskip⟩
  · exact ⟨rfl, rfl, rfl⟩

theorem afterPicture_eq {u : State} (hn : u.node = .active ∨ u.node = .test) (attrs : BitVec 8) (k : Word) :
    afterPicture u attrs k =
      (State.framesAtShow.showPicture k
        { u with
          ring := { u.ring with arriving := [] }
          frames := { u.frames with lastShow := some k } }).forward (Packet.showFrame attrs k).words :=
  congrArg (State.forward · _) (framesAtShow_eq_showPicture (s := { u with ring := { u.ring with arriving := [] } }) hn k)

/-- In ACTIVE and TEST the Frame Buffers act on a SHOW alike with a commit outstanding and with none. -/
theorem afterPicture_withCommit {u : State} (hn : u.node = .active ∨ u.node = .test) (attrs : BitVec 8) (k : Word)
    (c : CommitState) :
    afterPicture { u with banks := { u.banks with commit := c } } attrs k =
      { afterPicture u attrs k with banks := { u.banks with commit := c } } := by
  rw [afterPicture_eq hn, afterPicture_eq (u := { u with banks := { u.banks with commit := c } }) hn]
  exact congrArg (State.forward · _) (showPicture_withCommit
    { u with ring := { u.ring with arriving := [] }, frames := { u.frames with lastShow := some k } } k c)

theorem afterPicture_frames {u : State} (hn : u.node = .active ∨ u.node = .test) (attrs : BitVec 8) (k : Word) :
    (afterPicture u attrs k).frames.presentation = .live ∧
      (afterPicture u attrs k).frames.holdTimer = some u.banks.live.holdTime ∧
      (afterPicture u attrs k).frames.lastShow = some k := by
  rw [afterPicture_eq hn]
  exact showPicture_frames
    { u with ring := { u.ring with arriving := [] }, frames := { u.frames with lastShow := some k } } k

/-- Settles O47: after the commit test and the band, the SHOW is one that finds neither. -/
theorem commitsApplyBeforeTheFrame : Obligations.CommitsApplyBeforeTheFrame := by
  intro attrs k s hr hn
  have hne : s.node ≠ .loading := by rcases hn with e | e <;> simp [e]
  have hexec := exec_showFrame_of_ne_loading hr hne attrs k
  obtain ⟨u, hu⟩ : ∃ u, u = (s.commitAtShow k).applyPending := ⟨_, rfl⟩
  rw [← commitAtShow_eq, ← applyPending_eq, ← hu]
  rw [← hu] at hexec
  have hring : u.ring = s.ring := by simp [hu]
  have hnode : u.node = s.node := by simp [hu]
  have hpending : u.thermal.pending = none := hu ▸ applyPending_pending_none _
  have hru : Receiving u := by
    have hpin : u.resetPin = s.resetPin := by simp [hu]
    unfold Receiving
    rw [hpin, hring]
    exact hr
  have hun : u.node = .active ∨ u.node = .test := hnode ▸ hn
  have hsettled := exec_showFrame_settled (s := { u with banks := { u.banks with commit := .none } }) hru
    (hnode ▸ hne) rfl hpending attrs k
  rw [afterPicture_withCommit hun] at hsettled
  have hbanks : (afterPicture u attrs k).banks = u.banks := by simp [afterPicture]
  obtain ⟨hpresentation, hhold, hlast⟩ := afterPicture_frames hun attrs k
  refine ⟨⟨hru, hnode, by simp [hu], hpending⟩, _, hsettled, ?_, ?_, hhold, hpresentation, hlast, ?_⟩
  · rw [hexec, ← hbanks]
  · simp [afterPicture]
  · simp [afterPicture, hu]

/-! ### The correction (R38 to R40) -/

/-- R16: the knots of a colour of valid tables do not fall. -/
theorem knot_le_succ {b : Bank} (h : validate b = none) {colour k : Nat} (hc : colour < 3) (hk : k < 32) :
    b.knot colour k ≤ b.knot colour (k + 1) := by
  have hcurve : curveFailure b = none := relationFailure_of_valid h .curve
  unfold curveFailure at hcurve
  rw [List.findSome?_eq_none_iff] at hcurve
  have hpair := hcurve (colour, k + 1)
    (List.mem_flatMap.mpr ⟨colour, List.mem_range.mpr hc, List.mem_map.mpr ⟨k, List.mem_range.mpr hk, rfl⟩⟩)
  simpa using hpair

theorem knot_mono {b : Bank} (h : validate b = none) {colour i j : Nat} (hc : colour < 3) (hij : i ≤ j) (hj : j ≤ 32) :
    b.knot colour i ≤ b.knot colour j := by
  induction j, hij using Nat.le_induction with
  | base => exact Nat.le_refl _
  | succ j _ ih => exact (ih (by omega)).trans (knot_le_succ h hc (by omega))

theorem gained_le (gain sample : Nat) : gained gain sample ≤ 1023 := Nat.min_le_left _ _

theorem gained_mono (gain : Nat) {v v' : Nat} (h : v ≤ v') : gained gain v ≤ gained gain v' := by
  unfold gained
  gcongr

theorem knot_le_curveLevel (b : Bank) (colour g : Nat) : b.knot colour (g / 32) ≤ curveLevel b colour g :=
  Nat.le_add_right _ _

/-- R39: the curve level does not pass the upper knot. -/
theorem curveLevel_le_knot {b : Bank} (h : validate b = none) {colour g : Nat} (hc : colour < 3) (hg : g ≤ 1023) :
    curveLevel b colour g ≤ b.knot colour (g / 32 + 1) := by
  have hknot := knot_le_succ h hc (k := g / 32) (by omega)
  have hrest : g - 32 * (g / 32) ≤ 32 := by omega
  have hstep : (b.knot colour (g / 32 + 1) - b.knot colour (g / 32)) * (g - 32 * (g / 32)) / 32 ≤
      b.knot colour (g / 32 + 1) - b.knot colour (g / 32) :=
    Nat.div_le_of_le_mul ((Nat.mul_le_mul_left _ hrest).trans_eq (Nat.mul_comm _ _))
  unfold curveLevel
  dsimp only
  omega

/-- R39: the curve level grows with the gained sample: within a segment by its slope, across segments by the knots. -/
theorem curveLevel_mono {b : Bank} (h : validate b = none) {colour g g' : Nat} (hc : colour < 3) (hle : g ≤ g')
    (hg : g' ≤ 1023) : curveLevel b colour g ≤ curveLevel b colour g' := by
  rcases Nat.lt_or_ge (g / 32) (g' / 32) with hlt | hge
  · calc curveLevel b colour g ≤ b.knot colour (g / 32 + 1) := curveLevel_le_knot h hc (hle.trans hg)
      _ ≤ b.knot colour (g' / 32) := knot_mono h hc hlt (by omega)
      _ ≤ curveLevel b colour g' := knot_le_curveLevel b colour g'
  · have hsame : g / 32 = g' / 32 := Nat.le_antisymm (Nat.div_le_div_right hle) hge
    unfold curveLevel
    dsimp only
    rw [hsame]
    gcongr

theorem scaled_mono (scale : Nat) {level level' : Nat} (h : level ≤ level') : scaled scale level ≤ scaled scale level' := by
  unfold scaled
  gcongr

theorem scaled_le {scale : Nat} (h : scale ≤ 4096) (level : Nat) : scaled scale level ≤ level :=
  Nat.div_le_of_le_mul ((Nat.mul_le_mul_left _ h).trans_eq (Nat.mul_comm _ _))

/-- Settles O44. -/
theorem correctionKeepsItsRanges : Obligations.CorrectionKeepsItsRanges := by
  rintro tables colour gain scale _ _ v v' - hv hc - hscale rfl rfl hle
  have hg := gained_le gain v
  have hg' := gained_le gain v'
  have hmono := gained_mono gain hle
  have hlevel := curveLevel_mono hv hc hmono hg'
  have htop : tables.knot colour (gained gain v' / 32 + 1) ≤ 65535 := Nat.le_of_lt_succ (BitVec.isLt _)
  exact ⟨hg, hmono, knot_le_curveLevel _ _ _, curveLevel_le_knot hv hc hg, hlevel,
    (curveLevel_le_knot hv hc hg').trans htop, scaled_mono scale hlevel, scaled_le hscale _,
    Nat.mul_div_cancel _ (by decide)⟩

/-! ### The placement of bands (R72, R73) -/

theorem placeDown_eq_self {b : Bank} {t : Int} {n : Nat} (h : 1 ≤ n → b.threshold n ≤ t) : placeDown b t n = n := by
  cases n with
  | zero => rfl
  | succ n =>
    unfold placeDown
    rw [if_neg (Int.not_lt.mpr (h (Nat.succ_pos n)))]

/-- Settles O53: what the up pass raised the down pass leaves, for H is above 0. -/
theorem bandsArePlaced : Obligations.BandsArePlaced := by
  intro tables t b hcount hb _ hH
  obtain ⟨hfresh, hreached, habove⟩ := placeFreshFrom_spec tables t (tables.bandCount - 1)
  obtain ⟨hle, hlt, hraised, hnext⟩ := placeUp_spec tables t tables.bandCount b hb
  obtain ⟨hdown, hfell, hheld⟩ := placeDown_spec tables t (placeUp tables t tables.bandCount b)
  refine ⟨⟨?_, hreached, fun c h1 h2 => habove c h1 (by omega)⟩, ?_⟩
  · unfold placeFresh
    omega
  · unfold placeHysteresis
    rcases Nat.lt_or_ge b (placeUp tables t tables.bandCount b) with hup | hstay
    · have hup' := hraised hup
      rw [placeDown_eq_self fun _ => by omega]
      exact ⟨hlt, hraised, fun _ => hnext (by omega), fun h => by omega, fun _ => by omega⟩
    · have hsame : placeUp tables t tables.bandCount b = b := Nat.le_antisymm hstay hle
      rw [hsame] at hdown hfell hheld hnext ⊢
      refine ⟨by omega, fun h => by omega, fun h => ?_, fun h => hfell h, hheld⟩
      rw [Nat.le_antisymm hdown h]
      exact hnext (by omega)

end Sys2Proof.Machine
end

section
/-! A load's completion (R91), and what a store in progress leaves alone (R27, R86, R87, R93). -/

namespace Sys2Proof.Machine

-- One theorem after another, as in the tests: side by side each would hold a thread and its stack.
set_option Elab.async false

/-! ### The completion of a load (R91, R122) -/

/-- R122: the reservation becomes the result, in its place. -/
theorem complete_eq (q : ReplyQueue) (kind : ReplyKind) (result : List Word) :
    q.complete kind result =
      { q with entries := q.entries.map fun e =>
          match e with
          | .record r => .record r
          | .reservation w position logicalId =>
            .record ⟨position, logicalId, false, .reply kind (w :: result)⟩ } := by
  have hentry (e : Entry) : completeEntry kind result e =
      match e with
      | .record r => .record r
      | .reservation w position logicalId => .record ⟨position, logicalId, false, .reply kind (w :: result)⟩ := by
    cases e <;> rfl
  unfold ReplyQueue.complete
  rw [show completeEntry kind result = _ from funext hentry]

theorem loadCompletion_of_source {s : State} {source : ImageId} {g : BitVec 32} {tables : Bank}
    (hu : s.store.unit = .reading (some source)) (ht : (s.store.image source).tables = some tables)
    (hr : s.store.record source = .valid g) :
    s.loadCompletion =
      { s with
        banks := { s.banks with staged := tables, dirty := allDirty }
        store := { s.store with unit := .idle }
        queue := s.queue.complete .loadResult (0#16 :: imageCode source :: generationWords g) } := by
  unfold State.loadCompletion
  rw [hu]
  dsimp only
  unfold State.loadBank loadResultWords
  dsimp only
  rw [ht, hr]
  rfl

theorem loadCompletion_of_none {s : State} (hu : s.store.unit = .reading none) :
    s.loadCompletion =
      { s with
        store := { s.store with unit := .idle }
        queue := s.queue.complete .loadResult [2#16, 65535#16, 0#16, 0#16] } := by
  unfold State.loadCompletion
  rw [hu]
  rfl

/-- Settles O55. -/
theorem loadCompletes : Obligations.LoadCompletes := by
  intro s
  refine ⟨fun source g tables check hu himage hrecord => ?_, fun hu => ?_⟩
  · have ht : (s.store.image source).tables = some tables := by
      cases source <;> exact congrArg Image.tables himage
    have hr : s.store.record source = .valid g := by cases source <;> exact hrecord
    have hdone := loadCompletion_of_source hu ht hr
    have himageCode : imageCode source = if source = .image0 then 0#16 else 1#16 := by cases source <;> rfl
    rw [complete_eq, himageCode] at hdone
    exact congrArg Host.Outcome.next hdone
  · have hdone := loadCompletion_of_none hu
    rw [complete_eq] at hdone
    exact congrArg Host.Outcome.next hdone

/-! ### A store in progress (R86, R87, R93) -/

/-- No packet writes an image or the live bank: the node is LOADING, or a store is in progress, in which no commit is
applied and no other store begins (R27, R84, R107). -/
structure Sheltered (s u : State) : Prop where
  image0 : u.store.image0 = s.store.image0
  image1 : u.store.image1 = s.store.image1
  live : u.banks.live = s.banks.live
  shelter : u.node = .loading ∨ u.store.unit.isStoring = true

namespace Sheltered

variable {s u v : State}

theorem of_same (h : Sheltered s u) (hl : v.banks.live = u.banks.live := by simp) (hs : v.store = u.store := by simp)
    (hn : v.node = u.node := by simp) : Sheltered s v := by
  obtain ⟨h0, h1, hlive, hshelter⟩ := h
  exact ⟨hs ▸ h0, hs ▸ h1, hl.trans hlive, by rw [hn, hs]; exact hshelter⟩

theorem isStoring (h : Sheltered s u) (hn : u.node ≠ .loading) : u.store.unit.isStoring = true :=
  h.shelter.resolve_left hn

/-- Table 1-8: a commit due in a store is deferred. -/
theorem takeShow (h : Sheltered s u) (k : Word) : Sheltered s (u.takeShow k) := by
  by_cases hn : u.node = .loading
  · unfold State.takeShow
    rwa [if_pos hn]
  · have hlive : (u.commitAtShow k).banks.live = u.banks.live := by
      have hstoring := h.isStoring hn
      unfold State.commitAtShow
      rw [hstoring]
      split
      · rfl
      · split <;> rfl
      · rfl
    have htaken : (u.takeShow k).banks.live = u.banks.live := by
      unfold State.takeShow
      rw [if_neg hn, State.framesAtShow_banks, State.applyPending_banks, hlive]
    exact h.of_same htaken

theorem refusedCommit (h : Sheltered s u) (kind : Word) : Sheltered s (u.refusedCommit kind) := by
  refine h.of_same ?_
  unfold State.refusedCommit
  split
  · rfl
  · split
    · rfl
    · split
      · rfl
      · split <;> rfl

/-- R19, R27: in a store a COMMIT waits for a SHOW. -/
theorem acceptCommit (h : Sheltered s u) (hn : u.node ≠ .loading) {kind : Word} (frame : Word)
    (hc : u.checkCommit kind = none) : Sheltered s (u.acceptCommit kind frame) := by
  obtain ⟨k, hk, -, himmediate, -⟩ := checkCommit_eq_none hc
  refine h.of_same ?_
  unfold State.acceptCommit
  rw [hk]
  cases k with
  | next => rfl
  | frame => rfl
  | immediate => exact absurd (h.isStoring hn) (by simp [himmediate rfl])

/-- R84, R90: in a store no other store and no load begins. -/
theorem unit_ne_idle (h : Sheltered s u) (hn : u.node ≠ .loading) : u.store.unit ≠ .idle := fun e => by
  have hstoring := h.isStoring hn
  rw [e] at hstoring
  cases hstoring

theorem setState (h : Sheltered s u) (hn : u.node ≠ .loading) (target pattern red green blue : Word) :
    Sheltered s (u.setState target pattern red green blue) := by
  have hstoring := h.isStoring hn
  obtain ⟨h0, h1, hlive, -⟩ := h
  exact ⟨by simpa using h0, by simpa using h1, by simpa using hlive, .inr (by simpa using hstoring)⟩

theorem writeTable_live (u : State) (table start : Word) (values : List Word) :
    (u.writeTable table start values).banks.live = u.banks.live := by
  unfold State.writeTable
  split <;> rfl

theorem perform (h : Sheltered s u) {opening mode : Word} {c : Command} (hp : PassesStages u mode c) :
    Sheltered s (u.perform opening c) := by
  obtain ⟨hav, hcheck, -⟩ := hp
  have hn := ne_loading_of_available hav
  cases c with
  | commit kind frame => exact h.acceptCommit (hn (by simp)) frame hcheck
  | storeTables =>
    obtain ⟨hidle, -⟩ := checkStoreTables_eq_none hcheck
    exact absurd hidle (h.unit_ne_idle (hn (by simp)))
  | loadStored =>
    obtain ⟨-, hidle⟩ := checkLoadStored_eq_none hcheck
    exact absurd hidle (h.unit_ne_idle (hn (by simp)))
  | setState target pattern red green blue => exact h.setState (hn (by simp)) _ _ _ _ _
  | writeTable table start values =>
    exact h.of_same (v := u.writeTable table start values) (writeTable_live u table start values)
  | setIdentity logicalId groups => exact h.of_same (v := u.setIdentity logicalId groups)
  | setNotices mask => exact h.of_same (v := u.setNotices mask)
  | copyLive | cancelCommit | clearCounters | resetNode => exact h.of_same rfl rfl rfl
  | identify | readTable | readStatus | readTemperature => exact h

theorem nodeReset (h : Sheltered s u) : Sheltered s u.nodeReset := by
  obtain ⟨h0, h1, hlive, -⟩ := h
  exact ⟨h0, h1, hlive, .inl rfl⟩

theorem keptByCommands (s : State) : KeptByCommands (Sheltered s) where
  commands _ _ h := h.of_same rfl rfl rfl
  reply _ _ _ h := h.of_same rfl rfl rfl
  refusedCommit _ kind h := h.refusedCommit kind
  perform _ _ _ _ hp h := h.perform hp

theorem keptByPackets (s : State) : KeptByPackets (Sheltered s) where
  ring _ _ h := h.of_same rfl rfl rfl
  out _ _ h := h.of_same rfl rfl rfl
  pixel _ _ _ _ _ _ h := h.of_same
  showFrame _ k h := h.takeShow k
  collect _ _ _ _ _ h := h.of_same
  enum _ _ h := h.of_same
  control _ header code params h := (keptByCommands s).commandUnit h header code params
  nodeReset _ h := h.nodeReset

end Sheltered

/-- A store in progress in `s` is done no harm in `t`: its survivor and the live bank are as they were. -/
def StoreUnharmed (s t : State) : Prop :=
  ∀ phase target generation, s.store.unit = .storing phase target generation →
    t.store.image target.other = s.store.image target.other ∧ t.banks.live = s.banks.live

namespace StoreUnharmed

variable {s t : State}

theorem of_same (hs : t.store = s.store := by simp) (hb : t.banks = s.banks := by simp) : StoreUnharmed s t :=
  fun _ _ _ _ => ⟨by rw [hs], by rw [hb]⟩

theorem of_images (h0 : t.store.image0 = s.store.image0) (h1 : t.store.image1 = s.store.image1)
    (hl : t.banks.live = s.banks.live) : StoreUnharmed s t :=
  fun _ target _ _ => ⟨by cases target <;> assumption, hl⟩

theorem of_sameCore (h : SameCore s t) : StoreUnharmed s t := of_same h.store h.banks

/-- What the node receives, and the reset that it may answer, from a state whose store runs. -/
theorem of_packets (h : Sheltered s s → Sheltered s t) : StoreUnharmed s t := by
  intro phase target generation hu
  obtain ⟨h0, h1, hl, -⟩ := h ⟨rfl, rfl, rfl, .inr (by rw [hu]; rfl)⟩
  exact of_images h0 h1 hl phase target generation hu

theorem other_ne (i : ImageId) : i.other ≠ i := by cases i <;> simp [ImageId.other]

theorem hardRelease (s : State) : StoreUnharmed s s.hardRelease := by
  unfold State.hardRelease
  split <;> exact of_same rfl rfl

theorem eraseCompletion (s : State) : StoreUnharmed s s.eraseCompletion := by
  unfold State.eraseCompletion
  split <;> exact of_images rfl rfl rfl

/-- R87: PROGRAM writes its target. -/
theorem programCompletion (s : State) (defects : List Defect) : StoreUnharmed s (s.programCompletion defects) := by
  intro phase target generation hu
  unfold State.programCompletion
  rw [hu]
  cases phase with
  | program => exact ⟨by simp [Store.image_setImage, other_ne], rfl⟩
  | erase => exact ⟨rfl, rfl⟩
  | verify => exact ⟨rfl, rfl⟩

/-- R88: VERIFY completes its target. -/
theorem verifyCompletion (s : State) : StoreUnharmed s s.verifyCompletion := by
  intro phase target generation hu
  unfold State.verifyCompletion
  rw [hu]
  cases phase with
  | verify =>
    dsimp only
    split
    · exact ⟨by simp [Store.image_setImage, other_ne], rfl⟩
    · exact ⟨by simp, rfl⟩
  | erase => exact ⟨rfl, rfl⟩
  | program => exact ⟨rfl, rfl⟩

/-- R83: no load is READING while the unit is STORING. -/
theorem loadCompletion (s : State) : StoreUnharmed s s.loadCompletion := by
  intro phase target generation hu
  unfold State.loadCompletion
  rw [hu]
  exact ⟨rfl, rfl⟩

/-- R83: nor does the start-up read run then. -/
theorem startupReadCompletion (s : State) : StoreUnharmed s s.startupReadCompletion := by
  intro phase target generation hu
  unfold State.startupReadCompletion
  rw [hu]
  split <;> exact ⟨rfl, rfl⟩

theorem holdsOfRows : HoldsOfRows StoreUnharmed where
  receive s ws := of_packets fun h => (Sheltered.keptByPackets s).receive h ws
  hardReset _ := of_images rfl rfl rfl
  hardRelease := hardRelease
  gainLock s := of_sameCore (SameCore.gainLock s)
  lossOfLock s := of_sameCore (SameCore.lossOfLock s)
  linkNoticeTimerExpiry s := of_sameCore (SameCore.linkNoticeTimerExpiry s)
  forwardHead s := of_sameCore (SameCore.forwardHead s)
  sendFill s := of_sameCore (SameCore.sendFill s)
  resetNodeTakesEffect s := of_packets fun h => (Sheltered.keptByPackets s).resetNodeTakesEffect h
  holdTimerExpiry _ := of_same
  sampleTimerExpiry _ := of_same
  sensorAnswer _ _ := of_same
  answerLimitExpiry _ := of_same
  refreshBoundary _ := of_same
  eraseCompletion := eraseCompletion
  programCompletion := programCompletion
  verifyCompletion := verifyCompletion
  loadCompletion := loadCompletion
  startupReadCompletion := startupReadCompletion

end StoreUnharmed

/-- Settles O56. -/
theorem storesTouchOnlyTheirTarget : Obligations.StoresTouchOnlyTheirTarget := by
  intro i phase target generation s t hu hexec
  obtain ⟨himage, hlive⟩ := StoreUnharmed.holdsOfRows.exec hexec phase target generation hu
  exact ⟨by rintro rfl; exact himage, by rintro rfl; exact himage, hlive⟩

end Sys2Proof.Machine
end

section
/-! Pixel Intake (Chapter 2): which pixels of a packet lie in the window (R31 to R33), what writing them leaves in the
FILLING buffer (R38 to R41), and what the comparison with the FILLING tag decides (R35 to R37). -/

namespace Sys2Proof.Machine

-- One theorem after another, as in the tests: side by side each would hold a thread and its stack.
set_option Elab.async false

/-! ### The pixels of a packet (R31 to R33) -/

/-- The sample of a colour. -/
def Triple.sample (t : Triple) (colour : Nat) : Word :=
  if colour = 0 then t.red else if colour = 1 then t.green else t.blue

/-- R31: a run of `3 n` sample words is `n` triples. -/
theorem length_triples : ∀ {samples : List Word} {n : Nat}, samples.length = 3 * n → (triples samples).length = n
  | [], n, h => by simp only [List.length_nil] at h; simp only [triples, List.length_nil]; omega
  | [_], n, h => by simp only [List.length_cons, List.length_nil] at h; omega
  | [_, _], n, h => by simp only [List.length_cons, List.length_nil] at h; omega
  | red :: green :: blue :: rest, n, h => by
    simp only [List.length_cons] at h
    have ih := length_triples (samples := rest) (n := n - 1) (by omega)
    simp only [triples, List.length_cons]
    omega

/-- R31: the samples of pixel `j` are words `3 j` to `3 j + 2` of the run. -/
theorem sample_getElem_triples {colour : Nat} (hc : colour < 3) : ∀ (samples : List Word) (j : Nat)
    (hj : j < (triples samples).length), (triples samples)[j].sample colour = samples.getD (3 * j + colour) 0
  | [], _, hj => absurd hj (Nat.not_lt_zero _)
  | [_], _, hj => absurd hj (Nat.not_lt_zero _)
  | [_, _], _, hj => absurd hj (Nat.not_lt_zero _)
  | red :: green :: blue :: rest, 0, _ => by
    obtain rfl | rfl | rfl : colour = 0 ∨ colour = 1 ∨ colour = 2 := by omega
    all_goals rfl
  | red :: green :: blue :: rest, j + 1, hj => by
    have ih := sample_getElem_triples hc rest j (Nat.lt_of_succ_lt_succ hj)
    have hindex : 3 * (j + 1) + colour = 3 * j + colour + 3 := by omega
    rw [hindex]
    exact ih

/-- The samples that a run gives the wall pixel at line `l` and column `x`, if it carries that pixel (R31). -/
def tripleAt (line column : Nat) (ts : List Triple) (l x : Nat) : Option Triple :=
  if line = l ∧ column ≤ x then ts[x - column]? else none

theorem tripleAt_of_lt {line column l x : Nat} (h : x < column) (ts : List Triple) :
    tripleAt line column ts l x = none :=
  if_neg fun hat => Nat.not_le.mpr h hat.2

theorem tripleAt_eq_none {line column l x : Nat} {ts : List Triple}
    (h : ¬ (line = l ∧ column ≤ x ∧ x < column + ts.length)) : tripleAt line column ts l x = none := by
  unfold tripleAt
  split
  · exact List.getElem?_eq_none (by omega)
  · rfl

@[simp] theorem tripleAt_nil (line column l x : Nat) : tripleAt line column [] l x = none := by
  simp [tripleAt]

theorem tripleAt_cons (line column : Nat) (t : Triple) (ts : List Triple) (l x : Nat) :
    tripleAt line column (t :: ts) l x =
      if line = l ∧ column = x then some t else tripleAt line (column + 1) ts l x := by
  by_cases hat : line = l ∧ column = x
  · obtain ⟨rfl, rfl⟩ := hat
    simp [tripleAt]
  · rw [if_neg hat]
    by_cases hlater : line = l ∧ column + 1 ≤ x
    · have hindex : x - column = x - (column + 1) + 1 := by omega
      rw [tripleAt, tripleAt, if_pos hlater, if_pos (by omega), hindex, List.getElem?_cons_succ]
    · rw [tripleAt, tripleAt, if_neg hlater, if_neg (by omega)]

theorem inWindow_iff (b : Bank) (line column : Nat) :
    inWindow b line column = true ↔ WallPixelInWindow b line column := by
  simp [inWindow, WallPixelInWindow, and_assoc]

theorem oriented_eq (b : Bank) (i : Nat) : oriented b i = if b.window.getD 2 0 = 1#16 then 31 - i else i := by
  simp [oriented, Bank.rotated]

theorem oriented_lt {b : Bank} {i : Nat} (h : i < 32) : oriented b i < 32 := by
  unfold oriented
  split <;> omega

/-- R33: the orientation is its own inverse: element `i` shows the wall pixel `oriented b i` into the window. -/
theorem oriented_sub_eq_iff {b : Bank} {origin wall i : Nat} (hlow : origin ≤ wall) (hhigh : wall ≤ origin + 31)
    (hi : i < 32) : oriented b (wall - origin) = i ↔ wall = origin + oriented b i := by
  unfold oriented
  split <;> omega

/-- R32: a packet has no pixel to take just where none of its wall columns lies in the window. -/
theorem tilePixels_eq_nil_iff {b : Bank} {line : Nat} : ∀ {column : Nat} {ts : List Triple},
    tilePixels b line column ts = [] ↔ ∀ j, j < ts.length → ¬ WallPixelInWindow b line (column + j)
  | column, [] => by simp [tilePixels]
  | column, t :: ts => by
    have ih := tilePixels_eq_nil_iff (b := b) (line := line) (column := column + 1) (ts := ts)
    have hshift (j : Nat) : column + 1 + j = column + (j + 1) := by omega
    simp only [hshift] at ih
    unfold tilePixels
    rw [List.length_cons, Nat.forall_lt_succ_left, ← ih, Nat.add_zero, ← inWindow_iff]
    split
    next hin => simp [hin]
    next hout => simp [hout]

theorem pixelsInWindow_of_count {count : Word} {samples : List Word} (hlow : 1 ≤ count.toNat)
    (hhigh : count.toNat ≤ 256) (hlen : samples.length = 3 * count.toNat) (b : Bank) (line column : Word) :
    pixelsInWindow b line column count samples = tilePixels b line.toNat column.toNat (triples samples) := by
  have hcount : ¬ (count.toNat = 0 ∨ Config.maxPixels < count.toNat) := by simp only [Config.maxPixels]; omega
  rw [pixelsInWindow, if_neg hcount, List.take_of_length_le (length_triples hlen).le]

/-- R31, R32: a packet with nothing to take. -/
theorem pixelsInWindow_eq_nil {b : Bank} {line column count : Word} {samples : List Word}
    (hlen : samples.length = 3 * count.toNat)
    (h : count.toNat = 0 ∨ 256 < count.toNat ∨
      ∀ j, j < count.toNat → ¬ WallPixelInWindow b line.toNat (column.toNat + j)) :
    pixelsInWindow b line column count samples = [] := by
  by_cases hcount : count.toNat = 0 ∨ Config.maxPixels < count.toNat
  · rw [pixelsInWindow, if_pos hcount]
  · obtain ⟨hzero, hmax⟩ := not_or.mp hcount
    obtain h | h | h := h
    · exact absurd h hzero
    · exact absurd h hmax
    · rw [pixelsInWindow_of_count (by omega) (Nat.not_lt.mp hmax) hlen, tilePixels_eq_nil_iff, length_triples hlen]
      exact h

/-! ### The levels written (R38 to R41) -/

/-- The model's three steps of the correction are Table 2-3. -/
theorem corrected_eq_driveLevelOf (b : Bank) (profile r c colour : Nat) (sample : Word) :
    corrected b profile r c colour sample = driveLevelOf b profile r c colour sample := by
  have hmod (g : Nat) : g - 32 * (g / 32) = g % 32 := by omega
  simp only [corrected, driveLevelOf, scaled, curveLevel, gained, Bank.scale, Bank.knot, Bank.gainAt, hmod,
    Nat.min_comm _ 1023, Nat.add_assoc]

@[simp] theorem length_writePixel (b : Bank) (profile : Nat) (content : List Word) (p : TilePixel) :
    (writePixel b profile content p).length = content.length := by
  simp [writePixel]

@[simp] theorem length_writePixels (b : Bank) (profile : Nat) (content : List Word) (ps : List TilePixel) :
    (writePixels b profile content ps).length = content.length := by
  induction ps generalizing content with
  | nil => rfl
  | cons p ps ih => exact (ih _).trans (length_writePixel _ _ _ _)

/-- Three words set from `i` on, read at `k`. -/
theorem getD_set_three {content : List Word} {i : Nat} (hi : i + 2 < content.length) (x y z : Word) (k : Nat) :
    (((content.set i x).set (i + 1) y).set (i + 2) z).getD k 0 =
      if k = i then x else if k = i + 1 then y else if k = i + 2 then z else content.getD k 0 := by
  simp only [List.getD_eq_getElem?_getD, List.getElem?_set, List.length_set]
  grind

/-- R41: one pixel written replaces the three levels of its element and no other. -/
theorem getD_writePixel {b : Bank} {profile : Nat} {content : List Word} {p : TilePixel} {r c colour : Nat}
    (hlen : content.length = 3072) (hrow : p.row < 32) (hcolumn : p.column < 32) (hr : r < 32) (hc : c < 32)
    (hcolour : colour < 3) :
    (writePixel b profile content p).getD ((r * 32 + c) * 3 + colour) 0 =
      if p.row = r ∧ p.column = c then corrected b profile r c colour (p.samples.sample colour)
      else content.getD ((r * 32 + c) * 3 + colour) 0 := by
  have hroom : elementIndex p.row p.column + 2 < content.length := by unfold elementIndex; omega
  rw [writePixel, getD_set_three hroom]
  by_cases hat : p.row = r ∧ p.column = c
  · obtain ⟨rfl, rfl⟩ := hat
    obtain rfl | rfl | rfl : colour = 0 ∨ colour = 1 ∨ colour = 2 := by omega
    all_goals simp [elementIndex, Triple.sample]
  · unfold elementIndex
    rw [if_neg hat, if_neg (by omega), if_neg (by omega), if_neg (by omega)]

/-- R41: what the pixels of a run leave at an element: the corrected level of the wall pixel that the window and the
orientation put there, where the run carries it. -/
theorem getD_writePixels_tilePixels {b : Bank} {profile line r c colour : Nat} (hr : r < 32) (hc : c < 32)
    (hcolour : colour < 3) : ∀ (ts : List Triple) (column : Nat) (content : List Word), content.length = 3072 →
    (writePixels b profile content (tilePixels b line column ts)).getD ((r * 32 + c) * 3 + colour) 0 =
      ((tripleAt line column ts (b.originRow + oriented b r) (b.originColumn + oriented b c)).map fun t =>
        corrected b profile r c colour (t.sample colour)).getD (content.getD ((r * 32 + c) * 3 + colour) 0) := by
  intro ts
  induction ts with
  | nil => intro column content _; simp [tilePixels, writePixels]
  | cons t ts ih =>
    intro column content hlen
    rw [tripleAt_cons]
    unfold tilePixels
    by_cases hwindow : inWindow b line column = true
    · obtain ⟨hY, hY', hX, hX'⟩ := (inWindow_iff b line column).mp hwindow
      have hat : (oriented b (line - b.originRow) = r ∧ oriented b (column - b.originColumn) = c) ↔
          line = b.originRow + oriented b r ∧ column = b.originColumn + oriented b c :=
        and_congr (oriented_sub_eq_iff hY hY' hr) (oriented_sub_eq_iff hX hX' hc)
      rw [if_pos hwindow, writePixels, List.foldl_cons, ← writePixels, ih _ _ ((length_writePixel _ _ _ _).trans hlen),
        getD_writePixel hlen (oriented_lt (by omega)) (oriented_lt (by omega)) hr hc hcolour]
      simp only [hat]
      split
      next h => rw [tripleAt_of_lt (by omega)]; rfl
      next => rfl
    · have hother : ¬ (line = b.originRow + oriented b r ∧ column = b.originColumn + oriented b c) := by
        rintro ⟨rfl, rfl⟩
        have := oriented_lt (b := b) hr
        have := oriented_lt (b := b) hc
        exact hwindow ((inWindow_iff _ _ _).mpr ⟨by omega, by omega, by omega, by omega⟩)
      rw [if_neg hwindow, if_neg hother, ih _ _ hlen]

/-- R31 to R33, R38 to R41: the pixels of a packet written over 3072 levels. -/
theorem intaken_writePixels {s : State} {line column count : Word} {samples old : List Word} (hlow : 1 ≤ count.toNat)
    (hhigh : count.toNat ≤ 256) (hlen : samples.length = 3 * count.toNat) (hold : old.length = 3072) :
    Intaken s line column count samples old
      (writePixels s.banks.live s.activeProfile old (pixelsInWindow s.banks.live line column count samples)) := by
  refine ⟨(length_writePixels _ _ _ _).trans hold, fun r c colour hr hc hcolour => ?_⟩
  rw [pixelsInWindow_of_count hlow hhigh hlen, getD_writePixels_tilePixels hr hc hcolour _ _ _ hold]
  simp only [← oriented_eq, ← corrected_eq_driveLevelOf]
  split
  next h =>
    obtain ⟨hl, hx, hx'⟩ := h
    have hj : s.banks.live.originColumn + oriented s.banks.live c - column.toNat < (triples samples).length := by
      rw [length_triples hlen]; omega
    rw [tripleAt, if_pos ⟨hl, hx⟩, List.getElem?_eq_getElem hj, Option.map_some, Option.getD_some,
      sample_getElem_triples hcolour]
    rfl
  next h =>
    rw [tripleAt_eq_none (by rw [length_triples hlen]; exact h)]
    rfl

/-! ### The buffers a packet meets (R36, R45) -/

theorem mem_buffers {f : Frames} {b : Buffer} : b ∈ f.buffers ↔ b = f.buffer0 ∨ b = f.buffer1 ∨ b = f.buffer2 := by
  simp [Frames.buffers]

/-- R45: a role that one buffer holds is found in that buffer. -/
theorem withRole_eq_some {f : Frames} {b : Buffer} {r : Role} (hone : roleCount f r = 1) (hb : b ∈ f.buffers)
    (hr : b.role = r) : f.withRole r = some b := by
  rw [roleCount, List.countP_eq_length_filter] at hone
  obtain ⟨a, ha⟩ := List.length_eq_one_iff.mp hone
  have hmem : b ∈ f.buffers.filter fun b => b.role == r := List.mem_filter.mpr ⟨hb, by simpa using hr⟩
  rw [ha, List.mem_singleton] at hmem
  rw [Frames.withRole, ← List.head?_filter, ha, hmem]
  rfl

theorem buffer_of_withRole {f : Frames} {b : Buffer} {r : Role} (h : f.withRole r = some b) :
    b ∈ f.buffers ∧ b.role = r :=
  ⟨List.mem_of_find?_eq_some h, by simpa using List.find?_some h⟩

theorem not_hasRole_of_withRole {f : Frames} {r : Role} (h : f.withRole r = none) : ¬ HasRole f r := by
  simpa [Frames.withRole, Frames.buffers, HasRole] using h

/-- R45: every buffer holds its 3072 levels. -/
theorem length_content {f : Frames} {b : Buffer} (h : FramesOk f) (hb : b ∈ f.buffers) : b.content.length = 3072 := by
  obtain ⟨-, -, h0, h1, h2⟩ := h
  obtain rfl | rfl | rfl := mem_buffers.mp hb
  exacts [h0.1, h1.1, h2.1]

/-- R36: the content a retag copies is that of the PENDING buffer, and of the SHOWN one when none is PENDING. -/
theorem newestContent_spec {f : Frames} (hshown : roleCount f .shown = 1) : NewestContent f f.newestContent := by
  unfold Frames.newestContent
  cases hp : f.withRole .pending with
  | some b =>
    obtain ⟨hb, hrole⟩ := buffer_of_withRole hp
    exact ⟨b, mem_buffers.mp hb, rfl, .inl hrole⟩
  | none =>
    obtain ⟨b, hb, hrole⟩ := List.countP_pos_iff.mp (hshown ▸ Nat.one_pos : 0 < roleCount f .shown)
    have hrole : b.role = .shown := by simpa using hrole
    refine ⟨b, mem_buffers.mp hb, ?_, .inr ⟨hrole, not_hasRole_of_withRole hp⟩⟩
    simp [Frames.contentOf, withRole_eq_some hshown hb hrole]

theorem length_newestContent {f : Frames} (h : FramesOk f) : f.newestContent.length = 3072 := by
  obtain ⟨b, hb, hcontent, -⟩ := newestContent_spec h.1
  rw [← hcontent]
  exact length_content h (mem_buffers.mpr hb)

theorem refill_eq (content : List Word) (tag : Option Word) (b : Buffer) :
    refill content tag b = if b.role = .filling then ⟨.filling, tag, content⟩ else b := by
  unfold refill
  cases b.role <;> rfl

/-! ### A PIXEL packet taken in (R29, R34, R35) -/

theorem showsPicture_iff (n : NodeState) : n.showsPicture = true ↔ n = .active ∨ n = .test := by
  cases n <;> decide

/-- Pixel Intake does not touch the ring. -/
theorem takePixelPacket_withRing (s : State) (r : Ring) (frame line column count : Word) (samples : List Word) :
    State.takePixelPacket { s with ring := r } frame line column count samples =
      { s.takePixelPacket frame line column count samples with ring := r } := by
  have hcompare (ps : List TilePixel) :
      State.comparePixels { s with ring := r } frame ps = { s.comparePixels frame ps with ring := r } := by
    unfold State.comparePixels
    dsimp only
    split
    · rfl
    · split
      · rfl
      · split <;> rfl
  unfold State.takePixelPacket
  dsimp only
  split
  · split
    · rfl
    · exact hcompare _
  · rfl

/-- A PIXEL packet taken in: what Pixel Intake leaves, and the packet sent on. -/
theorem exec_pixel {s : State} {count : Word} {samples : List Word} (hr : Receiving s)
    (hlen : samples.length = 3 * count.toNat) (hfits : samples.length ≤ 1020) (attrs : BitVec 8)
    (frame line column : Word) :
    exec (.pixel attrs frame line column count samples) s =
      .next ((s.takePixelPacket frame line column count samples).sentOn
        (Packet.pixel attrs frame line column count samples).words) := by
  have hwf : (Packet.pixel attrs frame line column count samples).wf = true := by
    rw [Packet.wf, Bool.and_eq_true, beq_iff_eq, decide_eq_true_eq]
    exact ⟨hlen, Nat.add_le_add_right hfits 4⟩
  rw [exec_wellFormed (p := .pixel attrs frame line column count samples) rfl hr hwf, State.takeWellFormed,
    takePixelPacket_withRing, ← State.takePixelPacket_ring s frame line column count samples]
  rfl

/-- R29, R31, R34: no pixel is taken. -/
theorem takePixelPacket_eq_self {s : State} {line column count : Word} {samples : List Word}
    (h : s.node.showsPicture = false ∨ pixelsInWindow s.banks.live line column count samples = []) (frame : Word) :
    s.takePixelPacket frame line column count samples = s := by
  unfold State.takePixelPacket
  obtain h | h := h <;> rw [h]
  · exact if_neg Bool.false_ne_true
  · exact ite_self s

/-- R34: with a pixel in the window the frame number is compared. -/
theorem takePixelPacket_eq_comparePixels {s : State} {line column count : Word} {samples : List Word}
    (hn : s.node.showsPicture = true) (h : pixelsInWindow s.banks.live line column count samples ≠ []) (frame : Word) :
    s.takePixelPacket frame line column count samples =
      s.comparePixels frame (pixelsInWindow s.banks.live line column count samples) := by
  unfold State.takePixelPacket
  rw [if_pos hn]
  obtain ⟨p, ps, hps⟩ := List.exists_cons_of_ne_nil h
  rw [hps]

/-- Table 0-3. -/
theorem isLater_iff (n f : Word) : isLater n f = true ↔ 1 ≤ (n - f).toNat ∧ (n - f).toNat ≤ 32767 := by
  rw [isLater, Bool.and_eq_true, decide_eq_true_eq, decide_eq_true_eq]

/-- Table 2-2: untagged, or of the same frame. -/
theorem comparePixels_taken {s : State} {frame : Word}
    (h : s.frames.fillingTag = none ∨ s.frames.fillingTag = some frame) (ps : List TilePixel) :
    s.comparePixels frame ps = s.takePixels frame (s.frames.contentOf .filling) ps := by
  unfold State.comparePixels
  obtain h | h := h <;> rw [h]
  exact if_pos rfl

/-- Table 2-2: a later frame. -/
theorem comparePixels_later {s : State} {frame tag : Word} (h : s.frames.fillingTag = some tag)
    (hlow : 1 ≤ (frame - tag).toNat) (hhigh : (frame - tag).toNat ≤ 32767) (ps : List TilePixel) :
    s.comparePixels frame ps = s.retag frame ps := by
  have hne : frame ≠ tag := by rintro rfl; simp at hlow
  have hlater : isLater frame tag = true := (isLater_iff frame tag).mpr ⟨hlow, hhigh⟩
  simp only [State.comparePixels, h, if_neg hne, if_pos hlater]

/-- Table 2-2: an earlier frame. -/
theorem comparePixels_earlier {s : State} {frame tag : Word} (h : s.frames.fillingTag = some tag)
    (hlow : 32768 ≤ (frame - tag).toNat) (ps : List TilePixel) : s.comparePixels frame ps = s.discardStale := by
  have hne : frame ≠ tag := by rintro rfl; simp at hlow
  have hlater : ¬ isLater frame tag = true := fun e => by
    have := ((isLater_iff frame tag).mp e).2
    omega
  simp only [State.comparePixels, h, if_neg hne, if_neg hlater]

/-- A packet with a pixel in the window, in ACTIVE or TEST: the comparison decides, and the packet is sent on. -/
theorem exec_pixel_compared {s : State} {line column count : Word} {samples : List Word} (hr : Receiving s)
    (hn : s.node = .active ∨ s.node = .test) (hlen : samples.length = 3 * count.toNat) (hlow : 1 ≤ count.toNat)
    (hhigh : count.toNat ≤ 256)
    (hpixel : ∃ j, j < count.toNat ∧ WallPixelInWindow s.banks.live line.toNat (column.toNat + j)) (attrs : BitVec 8)
    (frame : Word) :
    exec (.pixel attrs frame line column count samples) s =
      .next ((s.comparePixels frame (pixelsInWindow s.banks.live line column count samples)).sentOn
        (Packet.pixel attrs frame line column count samples).words) := by
  have hsome : pixelsInWindow s.banks.live line column count samples ≠ [] := by
    obtain ⟨j, hj, hin⟩ := hpixel
    rw [pixelsInWindow_of_count hlow hhigh hlen, Ne, tilePixels_eq_nil_iff, length_triples hlen]
    exact fun h => h j hj hin
  rw [exec_pixel hr hlen (by omega), takePixelPacket_eq_comparePixels ((showsPicture_iff _).mpr hn) hsome]

/-- The FILLING buffer as Pixel Intake finds it. -/
theorem filling_found {f : Frames} {filling : Buffer} (h : FramesOk f) (hrole : filling.role = .filling)
    (hmem : filling = f.buffer0 ∨ filling = f.buffer1 ∨ filling = f.buffer2) :
    f.fillingTag = filling.tag ∧ f.contentOf .filling = filling.content := by
  have hfound := withRole_eq_some h.2.1 (mem_buffers.mpr hmem) hrole
  simp [Frames.fillingTag, Frames.contentOf, hfound]

/-- R41: pixels taken, in the words of the claims. -/
theorem takePixels_eq (s : State) (n : Word) (content : List Word) (ps : List TilePixel) :
    s.takePixels n content ps =
      { s with frames :=
        eachBuffer s.frames fun b =>
          if b.role = .filling then ⟨.filling, some n, writePixels s.banks.live s.activeProfile content ps⟩
          else b } := by
  simp only [State.takePixels, Frames.mapBuffers, eachBuffer, refill_eq]

/-- R43: a counter counts one more and stays at 65535. -/
theorem saturatingInc_eq (w : Word) : saturatingInc w = if w = 65535#16 then 65535#16 else w + 1#16 := by
  unfold saturatingInc
  split
  · assumption
  · rfl

/-! ### The claims -/

/-- Settles O41: the comparison takes the packet, and what it writes is `intaken_writePixels`. -/
theorem pixelPacketsAreTaken : Obligations.PixelPacketsAreTaken := by
  intro attrs frame line column count samples filling s hr hn hframes hlen hlow hhigh hpixel hrole hmem htag
  obtain ⟨hfillingTag, hcontent⟩ := filling_found hframes hrole hmem
  have hold := length_content hframes (mem_buffers.mpr hmem)
  refine ⟨_, intaken_writePixels hlow hhigh hlen hold, ?_⟩
  rw [exec_pixel_compared hr hn hlen hlow hhigh hpixel, comparePixels_taken (hfillingTag ▸ htag), hcontent,
    takePixels_eq]

/-- Settles O42: a retag writes over the newest content, which has its 3072 levels like every buffer's. -/
theorem pixelPacketsRetagOrAreStale : Obligations.PixelPacketsRetagOrAreStale := by
  intro attrs frame line column count tag samples filling s hr hn hframes hlen hlow hhigh hpixel hrole hmem htag
  obtain ⟨hfillingTag, -⟩ := filling_found hframes hrole hmem
  have htag : s.frames.fillingTag = some tag := hfillingTag.trans htag
  have hexec := exec_pixel_compared hr hn hlen hlow hhigh hpixel attrs frame
  refine ⟨fun hlater hlater' => ?_, fun hearlier => ?_⟩
  · refine ⟨_, _, newestContent_spec hframes.1, intaken_writePixels hlow hhigh hlen (length_newestContent hframes), ?_⟩
    rw [hexec, comparePixels_later htag hlater hlater', State.retag, takePixels_eq, saturatingInc_eq]
    rfl
  · rw [hexec, comparePixels_earlier htag hearlier, State.discardStale, saturatingInc_eq]

/-- Settles O43: either the node state takes no picture or the packet has no pixel to take. -/
theorem pixelPacketsIgnored : Obligations.PixelPacketsIgnored := by
  intro attrs frame line column count samples s hr hlen hfits hcases
  have hnone : s.node.showsPicture = false ∨ pixelsInWindow s.banks.live line column count samples = [] := by
    obtain hn | hn | hcount := hcases
    · exact .inl (by rw [hn]; rfl)
    · exact .inl (by rw [hn]; rfl)
    · exact .inr (pixelsInWindow_eq_nil hlen hcount)
  rw [exec_pixel hr hlen hfits, takePixelPacket_eq_self hnone]

end Sys2Proof.Machine
end

section
/-! The Frame Buffers (Chapter 3): what each of their operations does to the roles, and that every step keeps R45. -/

namespace Sys2Proof.Machine

-- One theorem after another, as in the tests: side by side each would hold a thread and its stack.
set_option Elab.async false

/-! ### The invariant of the buffers (R45) -/

theorem framesOk_iff {f : Frames} :
    FramesOk f ↔ roleCount f .shown = 1 ∧ roleCount f .filling = 1 ∧ ∀ b ∈ f.buffers, b.Ok := by
  simp [FramesOk, Frames.buffers]

/-- R45 does not speak of the presentation state, the timer, the last SHOW and the counters. -/
theorem FramesOk.of_buffers {f g : Frames} (h : FramesOk f) (hb : g.buffers = f.buffers) : FramesOk g := by
  rw [framesOk_iff] at h ⊢
  unfold roleCount at h ⊢
  rwa [hb]

theorem buffers_mapBuffers (f : Frames) (g : Buffer → Buffer) : (f.mapBuffers g).buffers = f.buffers.map g := rfl

theorem roleCount_mapBuffers (f : Frames) (g : Buffer → Buffer) (r : Role) :
    roleCount (f.mapBuffers g) r = f.buffers.countP fun b => (g b).role == r := by
  rw [roleCount, buffers_mapBuffers, List.countP_map]
  rfl

/-- Every buffer changed by a rule that keeps its levels and tag as its role asks, and that leaves one SHOWN and one
FILLING. -/
theorem FramesOk.mapBuffers {f : Frames} (h : FramesOk f) {g : Buffer → Buffer}
    (hshown : f.buffers.countP (fun b => (g b).role == .shown) = 1)
    (hfilling : f.buffers.countP (fun b => (g b).role == .filling) = 1) (hok : ∀ b : Buffer, b.Ok → (g b).Ok) :
    FramesOk (f.mapBuffers g) := by
  obtain ⟨-, -, hbuffers⟩ := framesOk_iff.mp h
  rw [framesOk_iff, roleCount_mapBuffers, roleCount_mapBuffers, buffers_mapBuffers, List.forall_mem_map]
  exact ⟨hshown, hfilling, fun b hb => hok b (hbuffers b hb)⟩

/-! ### How many buffers hold each role -/

/-- A buffer holds one role. -/
theorem countP_role_add (bs : List Buffer) :
    bs.countP (fun b => b.role == .pending) + bs.countP (fun b => b.role == .free) +
      bs.countP (fun b => b.role == .shown) + bs.countP (fun b => b.role == .filling) = bs.length := by
  induction bs with
  | nil => rfl
  | cons b bs ih =>
    simp only [List.countP_cons, List.length_cons]
    cases b.role <;> simp <;> omega

/-- R45: the third buffer is FREE or PENDING. -/
theorem FramesOk.third {f : Frames} (h : FramesOk f) : roleCount f .pending + roleCount f .free = 1 := by
  obtain ⟨hshown, hfilling, -⟩ := h
  have := countP_role_add f.buffers
  have hlen : f.buffers.length = 3 := rfl
  unfold roleCount at *
  omega

theorem FramesOk.pending_eq_one {f : Frames} (h : FramesOk f) {b : Buffer} (hb : b ∈ f.buffers)
    (hr : b.role = .pending) : roleCount f .pending = 1 := by
  have hpos : 0 < roleCount f .pending := List.countP_pos_iff.mpr ⟨b, hb, by simp [hr]⟩
  have := h.third
  omega

theorem promoteBuffer_filling_iff (k : Word) (filled : List Word) (b : Buffer) :
    (promoteBuffer k filled b).role = .filling ↔ b.role = .pending ∨ b.role = .free := by
  unfold promoteBuffer
  split <;> simp_all

theorem promoteBuffer_shown_iff (k : Word) (filled : List Word) (b : Buffer) :
    (promoteBuffer k filled b).role = .shown ↔ b.role = .shown := by
  unfold promoteBuffer
  split <;> simp_all

/-- R49: a promotion makes the third buffer FILLING, whichever it was. -/
theorem countP_promote_filling (k : Word) (filled : List Word) (bs : List Buffer) :
    bs.countP (fun b => (promoteBuffer k filled b).role == .filling) =
      bs.countP (fun b => b.role == .pending) + bs.countP (fun b => b.role == .free) := by
  simp only [beq_eq_decide, promoteBuffer_filling_iff]
  induction bs with
  | nil => rfl
  | cons b bs ih =>
    simp only [List.countP_cons, ih]
    cases b.role <;> simp <;> omega

theorem presentBuffer_shown_iff (b : Buffer) : (presentBuffer b).role = .shown ↔ b.role = .pending := by
  unfold presentBuffer
  split <;> simp_all

theorem presentBuffer_filling_iff (b : Buffer) : (presentBuffer b).role = .filling ↔ b.role = .filling := by
  unfold presentBuffer
  split <;> simp_all

theorem refill_role (content : List Word) (tag : Option Word) (b : Buffer) : (refill content tag b).role = b.role := by
  unfold refill
  split <;> simp_all

/-! ### What the operations leave of a buffer -/

theorem promoteBuffer_ok {filled : List Word} (hfilled : filled.length = 3072) (k : Word) {b : Buffer} (h : b.Ok) :
    (promoteBuffer k filled b).Ok := by
  unfold promoteBuffer
  split
  · exact h
  · exact ⟨h.1, fun e => (nomatch e), fun _ => rfl⟩
  · exact ⟨hfilled, fun _ => rfl, fun e => (nomatch e)⟩
  · exact ⟨hfilled, fun _ => rfl, fun e => (nomatch e)⟩

theorem presentBuffer_ok {b : Buffer} (h : b.Ok) : (presentBuffer b).Ok := by
  unfold presentBuffer
  split
  · exact ⟨h.1, fun _ => rfl, fun e => (nomatch e)⟩
  · exact ⟨h.1, fun e => (nomatch e), fun e => (nomatch e)⟩
  · exact h
  · exact h

theorem refill_ok {content : List Word} (hcontent : content.length = 3072) (tag : Option Word) {b : Buffer} (h : b.Ok) :
    (refill content tag b).Ok := by
  unfold refill
  split
  · exact ⟨hcontent, fun e => (nomatch e), fun e => (nomatch e)⟩
  · exact h
  · exact h
  · exact h

/-! ### The operations of the Frame Buffers and of Pixel Intake -/

namespace FramesOk

variable {f : Frames}

theorem length_contentOf_filling (h : FramesOk f) : (f.contentOf .filling).length = 3072 := by
  obtain ⟨b, hb, hrole⟩ := List.countP_pos_iff.mp (h.2.1 ▸ Nat.one_pos : 0 < roleCount f .filling)
  have hrole : b.role = .filling := by simpa using hrole
  rw [(filling_found h hrole (mem_buffers.mp hb)).2]
  exact length_content h hb

theorem promote (h : FramesOk f) (k : Word) {filled : List Word} (hfilled : filled.length = 3072) :
    FramesOk (f.mapBuffers (promoteBuffer k filled)) := by
  refine h.mapBuffers ?_ ?_ fun b => promoteBuffer_ok hfilled k
  · simp only [beq_eq_decide, promoteBuffer_shown_iff]
    exact h.1
  · exact (countP_promote_filling k filled f.buffers).trans h.third

theorem refill (h : FramesOk f) {content : List Word} (hcontent : content.length = 3072) (tag : Option Word) :
    FramesOk (f.mapBuffers (refill content tag)) := by
  refine h.mapBuffers ?_ ?_ fun b => refill_ok hcontent tag
  · simp only [refill_role]
    exact h.1
  · simp only [refill_role]
    exact h.2.1

/-- R52: the PENDING buffer becomes the SHOWN one. -/
theorem present (h : FramesOk f) : FramesOk f.present := by
  unfold Frames.present
  split
  · exact h
  · next b hb =>
    obtain ⟨hmem, hrole⟩ := buffer_of_withRole hb
    refine h.mapBuffers ?_ ?_ fun b => presentBuffer_ok
    · simp only [beq_eq_decide, presentBuffer_shown_iff]
      exact h.pending_eq_one hmem hrole
    · simp only [beq_eq_decide, presentBuffer_filling_iff]
      exact h.2.1

end FramesOk

/-! ### The link, which has no part in the picture -/

/-- The Frame Buffers, the Scan Output, the Thermal Monitor and the node state are the same in both states. -/
structure SamePicture (s t : State) : Prop where
  frames : t.frames = s.frames := by simp
  scan : t.scan = s.scan := by simp
  thermal : t.thermal = s.thermal := by simp
  node : t.node = s.node := by simp

namespace SamePicture

theorem gainLock (s : State) : SamePicture s s.gainLock := by
  unfold State.gainLock
  split
  · exact {}
  · split
    · exact {}
    · exact {}
    · unfold State.restoreLock
      exact {}

theorem lossOfLock (s : State) : SamePicture s s.lossOfLock := by
  unfold State.lossOfLock
  split
  · exact {}
  · split <;> exact {}

theorem linkNoticeTimerExpiry (s : State) : SamePicture s s.linkNoticeTimerExpiry := by
  unfold State.linkNoticeTimerExpiry
  split <;> exact {}

theorem forwardHead (s : State) : SamePicture s s.forwardHead := by
  unfold State.forwardHead
  split <;> exact {}

theorem sendFill (s : State) : SamePicture s s.sendFill := by
  unfold State.sendFill
  split
  · exact {}
  · split <;> exact {}

end SamePicture

/-! ### The blocks' events -/

theorem skipPending_buffers (s : State) : s.skipPending.frames.buffers = s.frames.buffers := by
  unfold State.skipPending
  split <;> rfl

theorem setState_buffers (s : State) (target pattern red green blue : Word) :
    (s.setState target pattern red green blue).frames.buffers = s.frames.buffers := by
  unfold State.setState
  split
  · rfl
  · unfold State.changePresentation
    split
    · rfl
    · split <;> rfl

theorem hardRelease_frames (s : State) : s.hardRelease.frames = s.frames := by
  unfold State.hardRelease
  split <;> rfl

theorem holdTimerExpiry_buffers (s : State) : s.holdTimerExpiry.frames.buffers = s.frames.buffers := by
  unfold State.holdTimerExpiry
  split <;> rfl

theorem startupReadCompletion_buffers (s : State) :
    s.startupReadCompletion.frames.buffers = s.frames.buffers := by
  have hleave (u : State) : u.leaveLoading.frames.buffers = u.frames.buffers := by
    unfold State.leaveLoading
    dsimp only
    split <;> rfl
  unfold State.startupReadCompletion
  split
  · rfl
  · split
    case h_1 => exact hleave _
    all_goals rfl

namespace FramesOk

variable {s : State}

theorem framesAtShow (h : FramesOk s.frames) (k : Word) : FramesOk (s.framesAtShow k).frames := by
  have hpicture (u : State) (hu : FramesOk u.frames) : FramesOk (State.framesAtShow.showPicture k u).frames := by
    unfold State.framesAtShow.showPicture
    rw [State.startLive_frames]
    refine FramesOk.of_buffers ?_ rfl
    split
    · have hskip := hu.of_buffers (skipPending_buffers u)
      exact hskip.promote k hskip.length_contentOf_filling
    · exact (hu.refill (length_newestContent hu) none).of_buffers rfl
  unfold State.framesAtShow
  split
  · exact h
  · exact h.of_buffers rfl
  · exact hpicture _ (h.of_buffers rfl)
  · exact hpicture _ (h.of_buffers rfl)

theorem takeShow (h : FramesOk s.frames) (k : Word) : FramesOk (s.takeShow k).frames := by
  unfold State.takeShow
  split
  · exact h
  · exact framesAtShow (by simpa using h) k

theorem takePixels (h : FramesOk s.frames) (n : Word) {content : List Word} (hcontent : content.length = 3072)
    (ps : List TilePixel) : FramesOk (s.takePixels n content ps).frames :=
  h.refill ((length_writePixels _ _ _ _).trans hcontent) (some n)

theorem takePixelPacket (h : FramesOk s.frames) (frame line column count : Word) (samples : List Word) :
    FramesOk (s.takePixelPacket frame line column count samples).frames := by
  have hcompare (ps : List TilePixel) : FramesOk (s.comparePixels frame ps).frames := by
    unfold State.comparePixels
    split
    · exact h.takePixels frame h.length_contentOf_filling ps
    · split
      · exact h.takePixels frame h.length_contentOf_filling ps
      · split
        · exact h.takePixels frame (length_newestContent h) ps
        · exact h
  unfold State.takePixelPacket
  split
  · split
    · exact h
    · exact hcompare _
  · exact h

theorem reset : FramesOk resetFrames :=
  ⟨rfl, rfl, ⟨List.length_replicate, fun _ => rfl, fun e => (nomatch e)⟩,
    ⟨List.length_replicate, fun _ => rfl, fun e => (nomatch e)⟩,
    ⟨List.length_replicate, fun _ => rfl, fun e => (nomatch e)⟩⟩

/-- R166, R172: the commands that touch the Frame Buffers leave the buffers alone. -/
theorem perform (h : FramesOk s.frames) (opening : Word) (c : Command) : FramesOk (s.perform opening c).frames := by
  cases c with
  | setState target pattern red green blue => exact h.of_buffers (setState_buffers s target pattern red green blue)
  | clearCounters => exact h.of_buffers rfl
  | _ => simpa [State.perform] using h

theorem refreshBoundary (h : FramesOk s.frames) : FramesOk s.refreshBoundary.frames := by
  unfold State.refreshBoundary
  split
  · exact h
  · exact h.present

theorem keptByCommands : KeptByCommands fun s => FramesOk s.frames where
  commands _ _ h := h
  reply _ _ _ h := h
  refusedCommit _ _ h := by simpa using h
  perform _ opening _ c _ h := h.perform opening c

theorem keptByPackets : KeptByPackets fun s => FramesOk s.frames where
  ring _ _ h := h
  out _ _ h := h
  pixel _ frame line column count samples h := h.takePixelPacket frame line column count samples
  showFrame _ k h := h.takeShow k
  collect _ _ _ _ _ h := by simpa using h
  enum _ _ h := by simpa using h
  control _ h code params hs := keptByCommands.commandUnit hs h code params
  nodeReset _ _ := reset

theorem holdsOfRows : HoldsOfRows fun s t => FramesOk s.frames → FramesOk t.frames where
  receive _ ws h := keptByPackets.receive h ws
  hardReset _ _ := reset
  hardRelease s h := by rwa [hardRelease_frames]
  gainLock s h := (SamePicture.gainLock s).frames ▸ h
  lossOfLock s h := (SamePicture.lossOfLock s).frames ▸ h
  linkNoticeTimerExpiry s h := (SamePicture.linkNoticeTimerExpiry s).frames ▸ h
  forwardHead s h := (SamePicture.forwardHead s).frames ▸ h
  sendFill s h := (SamePicture.sendFill s).frames ▸ h
  resetNodeTakesEffect _ h := keptByPackets.resetNodeTakesEffect h
  holdTimerExpiry s h := h.of_buffers (holdTimerExpiry_buffers s)
  sampleTimerExpiry _ h := by simpa using h
  sensorAnswer _ _ h := by simpa using h
  answerLimitExpiry _ h := by simpa using h
  refreshBoundary _ h := h.refreshBoundary
  eraseCompletion _ h := by simpa using h
  programCompletion _ _ h := by simpa using h
  verifyCompletion _ h := by simpa using h
  loadCompletion _ h := by simpa using h
  startupReadCompletion s h := h.of_buffers (startupReadCompletion_buffers s)

end FramesOk

/-- Settles O57: every row keeps the roles and the levels of R45. -/
theorem framesStayOk : Obligations.FramesStayOk := fun _ _ h hstep =>
  FramesOk.holdsOfRows.step (fun _ _ h => h) h hstep

end Sys2Proof.Machine
end

section
/-! The LED outputs (R58, R61, R62): what makes them dark, which operations leave that alone, and that a step from
a state in which LOADING and the start-up read go together keeps them dark. Without that premise the statement fails. -/

namespace Sys2Proof.Machine

-- One theorem after another, as in the tests: side by side each would hold a thread and its stack.
set_option Elab.async false

/-! ### The forced-dark conditions and the levels (R58, R62) -/

theorem forcedDark_iff (s : State) :
    s.forcedDark = true ↔
      s.node = .loading ∨ s.node = .standby ∨ s.frames.presentation = .dark ∨ s.thermal.cutoff = .cut := by
  unfold State.forcedDark
  cases s.node <;> simp

theorem driveLevel_of_dark {s : State} (h : s.scan.source = .dark) (r c colour : Nat) :
    s.driveLevel r c colour = 0#16 := by
  unfold State.driveLevel
  rw [h]
  rfl

theorem rowLevels_of_dark {s : State} (h : s.scan.source = .dark) (r : Nat) :
    s.rowLevels r = List.replicate 96 0#16 := by
  simp only [State.rowLevels, driveLevel_of_dark h, List.map_const', List.length_range]

/-! ### Operations that leave the light as it was -/

/-- What the invariant of the outputs speaks of is the same in both states. -/
structure SameLight (s t : State) : Prop where
  node : t.node = s.node := by simp
  presentation : t.frames.presentation = s.frames.presentation := by simp
  cutoff : t.thermal.cutoff = s.thermal.cutoff := by simp
  source : t.scan.source = s.scan.source := by simp

namespace SameLight

theorem trans {s t u : State} (h : SameLight s t) (h' : SameLight t u) : SameLight s u :=
  ⟨h'.node.trans h.node, h'.presentation.trans h.presentation, h'.cutoff.trans h.cutoff, h'.source.trans h.source⟩

theorem of_samePicture {s t : State} (h : SamePicture s t) : SameLight s t := by
  obtain ⟨frames, scan, thermal, node⟩ := h
  exact ⟨node, by rw [frames], by rw [thermal], by rw [scan]⟩

theorem applyPending (s : State) : SameLight s s.applyPending := by
  unfold State.applyPending
  split <;> exact {}

theorem applyAtMeasurement (s : State) : SameLight s s.applyAtMeasurement := by
  unfold State.applyAtMeasurement
  split
  · exact applyPending s
  · exact {}

/-- R23, R77: a commit changes bands, not the cutoff. -/
theorem applyCommit (s : State) : SameLight s s.applyCommit := by
  have hcutoff : s.applyCommit.thermal.cutoff = s.thermal.cutoff := by
    rw [applyCommit_eq]
    rcases afterCommit_thermal_cases s with ⟨-, h⟩ | ⟨band, h, -⟩ <;> rw [h]
  exact { cutoff := hcutoff }

theorem commitAtShow (s : State) (k : Word) : SameLight s (s.commitAtShow k) := by
  unfold State.commitAtShow
  split
  · exact {}
  · split
    · split
      · exact {}
      · exact applyCommit s
    · exact {}
  · split
    · exact {}
    · exact applyCommit s

theorem acceptCommit (s : State) (kind frame : Word) : SameLight s (s.acceptCommit kind frame) := by
  unfold State.acceptCommit
  dsimp only
  split
  · exact {}
  · exact {}
  · exact trans (t := { s with banks := { s.banks with lastFailure := none } }) {} (applyCommit _)
  · exact {}

theorem takePixelPacket (s : State) (frame line column count : Word) (samples : List Word) :
    SameLight s (s.takePixelPacket frame line column count samples) := by
  have hcompare (ps : List TilePixel) :
      (s.comparePixels frame ps).frames.presentation = s.frames.presentation := by
    unfold State.comparePixels
    split
    · rfl
    · split
      · rfl
      · split <;> rfl
  unfold State.takePixelPacket
  split
  · split
    · exact {}
    · exact { presentation := hcompare _ }
  · exact {}

/-- R70, R71: a placed band, applied or left pending. -/
theorem placed {s t : State} (h : SameLight s t) (b : Nat) : SameLight s (t.setPlaced b).applyAtMeasurement :=
  h.trans (trans (t := t.setPlaced b) {} (applyAtMeasurement _))

theorem measurementFault (s : State) (cause : Word) : SameLight s (s.measurementFault cause) :=
  placed (t := State.raise { s with thermal := { s.thermal with sensor := .fault } } .sensorFault (some cause)) {} _

theorem answerLimitExpiry (s : State) : SameLight s s.answerLimitExpiry := by
  unfold State.answerLimitExpiry
  split
  · exact {}
  · exact trans (t := s.endRequest) { cutoff := rfl } (measurementFault _ _)

theorem sampleTimerExpiry (s : State) : SameLight s s.sampleTimerExpiry := by
  unfold State.sampleTimerExpiry
  split
  · exact {}
  · dsimp only
    split <;> exact { cutoff := rfl }

end SameLight

/-! ### The invariant -/

theorem outputsOk_of_dark {t : State} (h : t.scan.source = .dark) : OutputsOk t := fun _ => h

namespace OutputsOk

variable {s t : State}

/-- No forced-dark condition begins and the source stays. -/
theorem mono (h : OutputsOk s) (hdark : t.forcedDark = true → s.forcedDark = true)
    (hsource : t.scan.source = s.scan.source) : OutputsOk t :=
  fun ht => hsource.trans (h (hdark ht))

theorem of_same (h : OutputsOk s) (hst : SameLight s t) : OutputsOk t := by
  obtain ⟨node, presentation, cutoff, source⟩ := hst
  refine h.mono (fun ht => ?_) source
  rw [forcedDark_iff] at ht ⊢
  rwa [node, presentation, cutoff] at ht

/-! ### Packets and commands -/

/-- R57: a SHOW in ACTIVE or TEST makes the presentation LIVE, which ends a dark one. -/
theorem framesAtShow (h : OutputsOk s) (k : Word) : OutputsOk (s.framesAtShow k) := by
  refine h.mono (fun ht => ?_) (by simp)
  rw [forcedDark_iff, State.framesAtShow_node, State.framesAtShow_thermal] at ht
  rw [forcedDark_iff]
  rcases ht with ht | ht | ht | ht
  · exact .inl ht
  · exact .inr (.inl ht)
  · cases hn : s.node with
    | loading => exact .inl rfl
    | standby => exact .inr (.inl rfl)
    | active | test =>
      rw [framesAtShow_eq_showPicture (by simp [hn]), (showPicture_frames _ k).1] at ht
      cases ht
  · exact .inr (.inr (.inr ht))

theorem takeShow (h : OutputsOk s) (k : Word) : OutputsOk (s.takeShow k) := by
  unfold State.takeShow
  split
  · exact h
  · exact (h.of_same ((SameLight.commitAtShow s k).trans (SameLight.applyPending _))).framesAtShow k

/-- R62, R166: the outputs are dark where the node did not show a picture, and go dark where it ends one. -/
theorem setState (h : OutputsOk s) (target pattern red green blue : Word) :
    OutputsOk (s.setState target pattern red green blue) := by
  have hunlit (hn : s.node.showsPicture = false) : s.scan.source = .dark :=
    h ((forcedDark_iff s).mpr (by cases hs : s.node <;> simp_all [NodeState.showsPicture]))
  unfold State.setState
  split
  · exact h
  · next t _ =>
    unfold State.changePresentation
    cases hold : s.node.showsPicture <;> cases hnew : t.showsPicture
    · exact outputsOk_of_dark (hunlit hold)
    · exact outputsOk_of_dark (hunlit hold)
    · exact outputsOk_of_dark rfl
    · refine h.mono (fun ht => ?_) rfl
      rw [forcedDark_iff] at ht ⊢
      rcases ht with ht | ht | ht
      · simp_all [NodeState.showsPicture]
      · simp_all [NodeState.showsPicture]
      · exact .inr (.inr ht)

theorem perform (h : OutputsOk s) (opening : Word) (c : Command) : OutputsOk (s.perform opening c) := by
  cases c with
  | setState target pattern red green blue => exact h.setState target pattern red green blue
  | commit kind frame => exact h.of_same (SameLight.acceptCommit s kind frame)
  | clearCounters => exact h.of_same ⟨rfl, rfl, rfl, rfl⟩
  | _ => exact h.of_same (by constructor <;> simp [State.perform])

theorem keptByCommands : KeptByCommands OutputsOk where
  commands _ _ h := h
  reply _ _ _ h := h
  refusedCommit _ _ h := h.of_same {}
  perform _ opening _ c _ h := h.perform opening c

theorem keptByPackets : KeptByPackets OutputsOk where
  ring _ _ h := h
  out _ _ h := h
  pixel s frame line column count samples h := h.of_same (SameLight.takePixelPacket s frame line column count samples)
  showFrame _ k h := h.takeShow k
  collect _ _ _ _ _ h := h.of_same {}
  enum _ _ h := h.of_same {}
  control _ h code params hs := keptByCommands.commandUnit hs h code params
  nodeReset _ _ := outputsOk_of_dark rfl

/-! ### Events -/

/-- R78: entering CUT darkens the outputs, and leaving it does not begin a condition. -/
theorem evaluateCutoff (h : OutputsOk s) (t : Int) : OutputsOk (s.evaluateCutoff t) := by
  unfold State.evaluateCutoff
  split
  · split
    · exact outputsOk_of_dark rfl
    · exact h
  · next hcut =>
    split
    · exact h.mono (fun _ => (forcedDark_iff s).mpr (.inr (.inr (.inr hcut)))) rfl
    · exact h

theorem sensorAnswer (h : OutputsOk s) (answer : Word) : OutputsOk (s.sensorAnswer answer) := by
  unfold State.sensorAnswer
  split
  · exact h
  · have hended : OutputsOk s.endRequest := h
    split
    · exact (hended.of_same (SameLight.placed
        (t := { s.endRequest with thermal := { s.endRequest.thermal with reading := _, sensor := .ok } })
        {} _)).evaluateCutoff _
    · exact hended.of_same (SameLight.measurementFault _ _)

theorem holdTimerExpiry (h : OutputsOk s) : OutputsOk s.holdTimerExpiry := by
  unfold State.holdTimerExpiry
  split
  · exact h
  · refine h.mono (fun ht => ?_) rfl
    rw [forcedDark_iff] at ht ⊢
    rcases ht with ht | ht | ht | ht
    · exact .inl ht
    · exact .inr (.inl ht)
    · cases ht
    · exact .inr (.inr (.inr ht))
  · exact outputsOk_of_dark rfl
  · exact h

/-- R61: a boundary chooses dark under a forced-dark condition. -/
theorem refreshBoundary (h : OutputsOk s) : OutputsOk s.refreshBoundary := by
  unfold State.refreshBoundary
  split
  · exact h
  · exact fun ht => if_pos ht

theorem hardRelease (h : OutputsOk s) : OutputsOk s.hardRelease := by
  unfold State.hardRelease
  split
  · exact outputsOk_of_dark rfl
  · exact h

/-- R92, R164: the start-up read leaves the source alone, which is dark where it runs in LOADING only. -/
theorem startupReadCompletion (h : OutputsOk s) (hn : s.store.unit = .startupRead → s.node = .loading) :
    OutputsOk s.startupReadCompletion := by
  have hsource (u : State) : u.leaveLoading.scan.source = u.scan.source := by
    unfold State.leaveLoading
    dsimp only
    split <;> rfl
  unfold State.startupReadCompletion
  split
  · exact h
  · split
    case h_1 hu =>
      exact outputsOk_of_dark ((hsource _).trans (h ((forcedDark_iff s).mpr (.inl (hn hu)))))
    all_goals exact h

theorem holdsOfRows : HoldsOfRows fun s t => CoreOk s → OutputsOk s → OutputsOk t where
  receive _ ws _ h := keptByPackets.receive h ws
  hardReset _ _ _ := outputsOk_of_dark rfl
  hardRelease _ _ h := h.hardRelease
  gainLock s _ h := h.of_same (.of_samePicture (SamePicture.gainLock s))
  lossOfLock s _ h := h.of_same (.of_samePicture (SamePicture.lossOfLock s))
  linkNoticeTimerExpiry s _ h := h.of_same (.of_samePicture (SamePicture.linkNoticeTimerExpiry s))
  forwardHead s _ h := h.of_same (.of_samePicture (SamePicture.forwardHead s))
  sendFill s _ h := h.of_same (.of_samePicture (SamePicture.sendFill s))
  resetNodeTakesEffect _ _ h := keptByPackets.resetNodeTakesEffect h
  holdTimerExpiry _ _ h := h.holdTimerExpiry
  sampleTimerExpiry s _ h := h.of_same (SameLight.sampleTimerExpiry s)
  sensorAnswer _ reading _ h := h.sensorAnswer reading
  answerLimitExpiry s _ h := h.of_same (SameLight.answerLimitExpiry s)
  refreshBoundary _ _ h := h.refreshBoundary
  eraseCompletion _ _ h := h.of_same {}
  programCompletion _ _ _ h := h.of_same {}
  verifyCompletion _ _ h := h.of_same {}
  loadCompletion _ _ h := h.of_same {}
  startupReadCompletion _ hcore h := h.startupReadCompletion hcore.loading_iff.mpr

end OutputsOk

/-- R62 from a state that meets `CoreOk`, whose step keeps it (O60): every step keeps the outputs dark, and so every
level 0, while a forced-dark condition holds. -/
theorem outputsOk_of_step {s t : State} (hcore : CoreOk s) (h : OutputsOk s) (hstep : step s = .next t) :
    OutputsOk t ∧
      (t.forcedDark = true →
        ∀ r c colour : Nat, t.driveLevel r c colour = 0#16 ∧ t.rowLevels r = List.replicate 96 0#16) := by
  have hkept : OutputsOk t := by
    unfold step at hstep
    split at hstep
    · cases hstep
      exact h
    · exact OutputsOk.holdsOfRows.exec hstep hcore h
  exact ⟨hkept, fun ht r c colour => ⟨driveLevel_of_dark (hkept ht) r c colour, rowLevels_of_dark (hkept ht) r⟩⟩

/-- The reset state but for an ACTIVE node that shows a picture, although its start-up read still runs, and completes
next: no forced-dark condition holds in it, and `CoreOk` excludes it. -/
def litDuringStartup : State :=
  { State.reset with
    pending := [.startupReadCompletion]
    node := .active
    scan := { resetScan with source := .picture } }

theorem not_coreOk_litDuringStartup : ¬ CoreOk litDuringStartup := fun h => nomatch h.loading_iff.mpr rfl

/-- Refutes O58: with the factory defaults the start-up read leaves the node in STANDBY (R164), a forced-dark condition,
and does not touch the output source, which in this state is the picture. The premise that is missing, that the start-up
read runs in LOADING only, is part of `CoreOk`: with it the statement holds (`outputsOk_of_step`). -/
theorem not_outputsStayDark : ¬ Obligations.OutputsStayDark := by
  intro h
  have hlit : OutputsOk litDuringStartup := fun hd => absurd hd (by decide)
  obtain ⟨hdark, -⟩ := h litDuringStartup { litDuringStartup with pending := [] }.startupReadCompletion hlit rfl
  have hsource : Source.picture = .dark := hdark rfl
  cases hsource

end Sys2Proof.Machine
end

section
/-! What the resets leave (Table 10-3), the hold timer (R55, R56), SET STATE (R165, R166), a SHOW in ACTIVE and TEST
(R48 to R51, R57), and the refresh boundary with the levels it drives (R52, R58 to R63). -/

namespace Sys2Proof.Machine

-- One theorem after another, as in the tests: side by side each would hold a thread and its stack.
set_option Elab.async false

/-! ### Resets (Table 10-3) -/

/-- Settles O5: the reset values are those of Table 10-3, word for word. -/
theorem hardResetSetsEveryBlock : Obligations.HardResetSetsEveryBlock := by
  intro s
  refine ⟨rfl, fun hp => ?_, fun t u ht hu => ?_⟩
  · exact congrArg Host.Outcome.next (if_pos hp)
  · cases ht
    cases hu
    rfl

theorem CoreOk.atReset : CoreOk State.reset :=
  ⟨⟨shaped_factory, inRangeAll_of_valid validate_factory, shaped_factory, validate_factory, fun e => (nomatch e)⟩,
    fun e => absurd rfl e, StoreOk.reset _ _, rfl,
    ⟨bandCount_pos validate_factory, fun _ e => (nomatch e), fun _ e => (nomatch e)⟩, ⟨fun _ => rfl, fun _ => rfl⟩,
    fun _ => rfl, fun _ => rfl, fun e => absurd rfl e, fun e => (nomatch e), fun e => (nomatch e), fun e => (nomatch e)⟩

/-- Settles O6: the banks of the reset are the factory defaults, which are valid. -/
theorem resetMeetsInvariants : Obligations.ResetMeetsInvariants := by
  refine ⟨FramesOk.reset, outputsOk_of_dark rfl, ⟨?_, ?_, ?_, ?_⟩, fun _ e => (nomatch e), CoreOk.atReset,
    RingOk.reset State.reset rfl, Nat.zero_le _, fun _ e => (nomatch e)⟩
  · exact Nat.zero_le _
  · exact Nat.zero_le _
  · exact List.nodup_nil
  · exact fun e => absurd rfl e

/-! ### The hold timer (R55, R56) -/

/-- Settles O49: the timer runs, so the presentation state decides. -/
theorem holdTimerExpires : Obligations.HoldTimerExpires := by
  intro s time ht
  have hexec : exec .holdTimerExpiry s = .next s.holdTimerExpiry := rfl
  rw [hexec]
  unfold State.holdTimerExpiry
  rw [ht]
  exact ⟨fun hp => by rw [hp]; rfl, fun hp => by rw [hp]; rfl⟩

/-! ### SET STATE (R54, R165, R166) -/

theorem targetStateOf_eq_none {target : Word} (h : target.toNat < 1 ∨ 3 < target.toNat) :
    targetStateOf target = none := by
  unfold targetStateOf
  split
  case h_4 => rfl
  all_goals omega

theorem patternOf_eq_none {pattern : Word} (h : pattern.toNat < 1 ∨ 3 < pattern.toNat) (red green blue : Word) :
    patternOf pattern red green blue = none := by
  unfold patternOf
  split
  case h_4 => rfl
  all_goals omega

/-- R165: an undefined target, or TEST with an undefined pattern. -/
theorem checkSetState_eq_invalid {target pattern : Word}
    (h : target.toNat < 1 ∨ 3 < target.toNat ∨ (target = 3#16 ∧ (pattern.toNat < 1 ∨ 3 < pattern.toNat)))
    (red green blue : Word) : checkSetState target pattern red green blue = some .invalid := by
  unfold checkSetState
  have htarget : targetStateOf target = none ∨ target = 3#16 ∧ patternOf pattern red green blue = none := by
    rcases h with h | h | ⟨h3, h⟩
    · exact .inl (targetStateOf_eq_none (.inl h))
    · exact .inl (targetStateOf_eq_none (.inr h))
    · exact .inr ⟨h3, patternOf_eq_none h red green blue⟩
  rcases htarget with hnone | ⟨rfl, hnone⟩ <;> rw [hnone]
  rfl

/-- The Frame Buffers as a change to ACTIVE or TEST leaves them. -/
def litFrames (s : State) : Frames :=
  if s.node = .active ∨ s.node = .test then s.frames
  else { s.frames with presentation := .live, holdTimer := some s.banks.live.holdTime }

/-- R54, R166: the picture begins, unless it was there. -/
theorem setState_lit {target : Word} {n : NodeState} (ht : targetStateOf target = some n) (hn : n.showsPicture = true)
    (s : State) (pattern red green blue : Word) :
    s.setState target pattern red green blue =
      { s with
        node := n
        frames := litFrames s
        scan := { s.scan with pattern := selectedPattern n pattern red green blue } } := by
  unfold State.setState State.changePresentation litFrames
  rw [ht]
  dsimp only
  rw [hn]
  simp only [← showsPicture_iff]
  cases s.node.showsPicture <;> rfl

/-- R54, R62, R166: the picture ends, if it was there. -/
theorem setState_standby (s : State) (pattern red green blue : Word) :
    s.setState 1#16 pattern red green blue =
      { s with
        node := .standby
        frames := if s.node = .active ∨ s.node = .test then { s.frames with holdTimer := none } else s.frames
        scan :=
          { s.scan with
            pattern := none
            source := if s.node = .active ∨ s.node = .test then .dark else s.scan.source } } := by
  have ht : targetStateOf 1#16 = some .standby := rfl
  unfold State.setState State.changePresentation
  rw [ht]
  dsimp only
  simp only [← showsPicture_iff]
  cases s.node.showsPicture <;> rfl

/-- A SET STATE offered outside LOADING whose target and pattern are defined. -/
theorem exec_setState {s : State} {h : Header} (ho : Offered s h) (hn : s.node ≠ .loading)
    {target pattern red green blue : Word} (hc : checkSetState target pattern red green blue = none) :
    exec (.setState h target pattern red green blue) s =
      .next (acceptance (s.setState target pattern red green blue) h (.setState target pattern red green blue) none) :=
  exec_offered_accepted (.setState target pattern red green blue) ho rfl (availableIn_of_ne_loading hn (by simp)) hc
    (fun e => (nomatch e))

/-- One that its owner refuses. -/
theorem exec_setState_invalid {s : State} {h : Header} (ho : Offered s h) (hn : s.node ≠ .loading)
    {target pattern red green blue : Word} (hc : checkSetState target pattern red green blue = some .invalid) :
    exec (.setState h target pattern red green blue) s =
      .next (refusal s h 0x40#16 [target, pattern, red, green, blue] 6#16) :=
  exec_offered_refused (.setState target pattern red green blue) (d := .invalid) ho rfl hn (by simp) hc

/-- Settles O31: the owner's checks refuse what R165 does, and the rest begins, keeps or ends the picture. -/
theorem setStateMoves : Obligations.SetStateMoves := by
  intro h target pattern red green blue s ho hn command lit entered
  refine ⟨fun hbad => ?_, ?_, ?_, ?_⟩
  · exact exec_setState_invalid ho hn (checkSetState_eq_invalid hbad red green blue)
  · rintro rfl
    rw [exec_setState ho hn rfl, setState_standby]
  · rintro rfl
    rw [exec_setState ho hn rfl, setState_lit (n := .active) rfl rfl]
    rfl
  · rintro p rfl hp
    have hpattern : patternOf pattern red green blue = some p := by
      rcases hp with ⟨rfl, rfl⟩ | ⟨rfl, rfl⟩ | ⟨rfl, rfl⟩ <;> rfl
    have hcheck : checkSetState 3#16 pattern red green blue = none := by
      unfold checkSetState
      rw [hpattern]
      rfl
    rw [exec_setState ho hn hcheck, setState_lit (n := .test) rfl rfl, selectedPattern, if_pos rfl, hpattern]
    rfl

/-! ### A SHOW in ACTIVE and TEST (R48 to R51, R57) -/

/-- R48: the FILLING buffer is untagged or of the SHOW's number. -/
theorem showPicture_matched {u : State} {k : Word} (h : u.frames.fillingTag = none ∨ u.frames.fillingTag = some k) :
    State.framesAtShow.showPicture k u = (u.promote k).startLive := by
  have hmatches : u.frames.matchesShow k = true := by
    unfold Frames.matchesShow
    rcases h with h | h <;> rw [h]
    exact beq_self_eq_true k
  rw [State.framesAtShow.showPicture, if_pos hmatches]

theorem showPicture_unmatched {u : State} {k tag : Word} (h : u.frames.fillingTag = some tag) (hne : tag ≠ k) :
    State.framesAtShow.showPicture k u = u.unmatched.startLive := by
  have hmatches : ¬ u.frames.matchesShow k = true := by
    unfold Frames.matchesShow
    rw [h]
    simpa using hne
  rw [State.framesAtShow.showPicture, if_neg hmatches]

theorem withRole_eq_none {f : Frames} {r : Role} (h : ¬ HasRole f r) : f.withRole r = none := by
  simpa [Frames.withRole, Frames.buffers, HasRole] using h

/-- R49: a promotion that skips no frame. -/
theorem promote_of_not_pending {u : State} (h : ¬ HasRole u.frames .pending) (k : Word) :
    u.promote k =
      { u with frames := u.frames.mapBuffers (promoteBuffer k (u.frames.contentOf .filling)) } := by
  have hskip : u.skipPending = u := by
    unfold State.skipPending
    rw [withRole_eq_none h]
  rw [State.promote, hskip]

/-- R50: a promotion that skips the PENDING frame. -/
theorem promote_of_pending {u : State} {skipped : Buffer} {tag : Word} (h : u.frames.withRole .pending = some skipped)
    (ht : skipped.tag = some tag) (k : Word) :
    u.promote k =
      { u with
        frames :=
          { u.frames.mapBuffers (promoteBuffer k (u.frames.contentOf .filling)) with
            skippedFrames := saturatingInc u.frames.skippedFrames }
        queue := u.queue.raise u.address .frameSkipped (some tag) } := by
  have hskip : u.skipPending =
      { u with
        frames := { u.frames with skippedFrames := saturatingInc u.frames.skippedFrames }
        queue := u.queue.raise u.address .frameSkipped (some tag) } := by
    unfold State.skipPending
    rw [h]
    dsimp only
    rw [ht]
    rfl
  rw [State.promote, hskip]
  rfl

/-- R51: an unmatched SHOW, in the words of the claims. -/
theorem unmatched_eq (u : State) :
    u.unmatched =
      { u with frames :=
        { eachBuffer u.frames (fun b =>
            if b.role = .filling then ⟨.filling, none, u.frames.newestContent⟩ else b) with
          unmatchedShows :=
            if u.frames.unmatchedShows = 65535#16 then 65535#16 else u.frames.unmatchedShows + 1#16 } } := by
  simp only [State.unmatched, Frames.mapBuffers, eachBuffer, refill_eq, saturatingInc_eq]

/-- Settles O45: with no commit and no band the SHOW comes to the Frame Buffers, where the FILLING tag decides. -/
theorem showsChangeThePicture : Obligations.ShowsChangeThePicture := by
  intro attrs k filling s hr hn hframes hcommit hpending hrole hmem live promoted packet
  obtain ⟨htag, hcontent⟩ := filling_found hframes hrole hmem
  have hne : s.node ≠ .loading := by rcases hn with e | e <;> simp [e]
  have hexec := exec_showFrame_settled hr hne hcommit hpending attrs k
  rw [afterPicture_eq hn] at hexec
  obtain ⟨u, hu⟩ : ∃ u : State, u =
    { s with ring := { s.ring with arriving := [] }, frames := { s.frames with lastShow := some k } } := ⟨_, rfl⟩
  rw [← hu] at hexec
  have hutag : u.frames.fillingTag = filling.tag := by rw [← htag, hu]; rfl
  have hucontent : u.frames.contentOf .filling = filling.content := by rw [← hcontent, hu]; rfl
  refine ⟨fun hmatch => ?_, fun tag ht hother => ⟨_, newestContent_spec hframes.1, ?_⟩⟩
  · rw [← hutag] at hmatch
    rw [showPicture_matched hmatch] at hexec
    refine ⟨fun hnone => ?_, fun skipped tag hsrole hstag hsmem => ?_⟩
    · have hunone : ¬ HasRole u.frames .pending := by rw [hu]; exact hnone
      rw [hexec, promote_of_not_pending hunone, hucontent, hu]
      rfl
    · have hsmem := mem_buffers.mpr hsmem
      have hfound := withRole_eq_some (hframes.pending_eq_one hsmem hsrole) hsmem hsrole
      have hufound : u.frames.withRole .pending = some skipped := by rw [hu]; exact hfound
      rw [hexec, promote_of_pending hufound hstag, hucontent, saturatingInc_eq, hu]
      rfl
  · rw [hexec, showPicture_unmatched (hutag.trans ht) hother, unmatched_eq, hu]
    rfl

/-! ### The refresh boundary (R52, R60, R61) -/

theorem presentBuffer_eq (b : Buffer) :
    presentBuffer b =
      if b.role = .pending then ⟨.shown, b.tag, b.content⟩
      else if b.role = .shown then ⟨.free, none, b.content⟩
      else b := by
  unfold presentBuffer
  cases b.role <;> rfl

/-- R52: a PENDING buffer becomes the SHOWN one and the SHOWN one FREE, and without one nothing changes. -/
theorem present_eq (f : Frames) :
    f.present = eachBuffer f fun b =>
      if b.role = .pending then ⟨.shown, b.tag, b.content⟩
      else if b.role = .shown ∧ (f.buffer0.role = .pending ∨ f.buffer1.role = .pending ∨ f.buffer2.role = .pending) then
        ⟨.free, none, b.content⟩
      else b := by
  unfold Frames.present
  cases hfound : f.withRole .pending with
  | none =>
    obtain ⟨h0, h1, h2⟩ : f.buffer0.role ≠ .pending ∧ f.buffer1.role ≠ .pending ∧ f.buffer2.role ≠ .pending := by
      simpa [HasRole] using not_hasRole_of_withRole hfound
    simp [eachBuffer, h0, h1, h2]
  | some b =>
    have hpending : f.buffer0.role = .pending ∨ f.buffer1.role = .pending ∨ f.buffer2.role = .pending := by
      obtain ⟨hb, hrole⟩ := buffer_of_withRole hfound
      rcases mem_buffers.mp hb with rfl | rfl | rfl <;> simp [hrole]
    simp only [hpending, and_true, ← presentBuffer_eq]
    rfl

theorem present_presentation (f : Frames) : f.present.presentation = f.presentation := by
  unfold Frames.present
  split <;> rfl

/-- R61, R62, R64: dark under a forced-dark condition, else the pattern in TEST and the picture in ACTIVE. -/
theorem chooseSource_eq (s : State) :
    s.chooseSource =
      if s.node = .loading ∨ s.node = .standby ∨ s.frames.presentation = .dark ∨ s.thermal.cutoff = .cut then .dark
      else if s.node = .test then (s.scan.pattern.map Source.pattern).getD .dark
      else .picture := by
  unfold State.chooseSource
  simp only [forcedDark_iff]
  cases s.scan.pattern <;> rfl

/-! ### The levels driven (R58, R61, R63) -/

theorem length_rowLevels (s : State) (r : Nat) : (s.rowLevels r).length = 96 := by
  rw [State.rowLevels, List.length_map, List.length_range]

/-- R58: a colour's level at column `c` stands at place 3 c + colour. -/
theorem rowLevels_getD (s : State) (r : Nat) {c colour : Nat} (hc : c < 32) (hcolour : colour < 3) :
    (s.rowLevels r).getD (3 * c + colour) 0 = s.driveLevel r c colour := by
  have hplace : 3 * c + colour < 96 := by omega
  have hcolumn : (3 * c + colour) / 3 = c := by omega
  have hlevel : (3 * c + colour) % 3 = colour := by omega
  simp [State.rowLevels, hplace, hcolumn, hlevel]

theorem driveLevel_of_pattern {s : State} {p : Pattern} (h : s.scan.source = .pattern p) (r c colour : Nat) :
    s.driveLevel r c colour = p.level r c colour := by
  rw [State.driveLevel, h]

/-- R61: the picture is the SHOWN buffer's. -/
theorem driveLevel_of_picture {s : State} {shown : Buffer} (h : s.scan.source = .picture) (hframes : FramesOk s.frames)
    (hrole : shown.role = .shown) (hmem : shown ∈ s.frames.buffers) (r c colour : Nat) :
    s.driveLevel r c colour = shown.content.getD ((r * 32 + c) * 3 + colour) 0 := by
  have hfound := withRole_eq_some hframes.1 hmem hrole
  simp [State.driveLevel, h, Frames.contentOf, hfound]

/-- Settles O48: what the boundary leaves, and the levels by the source that it chose. -/
theorem refreshBoundaryPresents : Obligations.RefreshBoundaryPresents := by
  intro s hp presented profile code dark t
  have hpresented : s.frames.present = presented := present_eq s.frames
  have hexec : exec .refreshBoundary s = .next t := by
    have hrow : exec .refreshBoundary s = .next s.refreshBoundary := rfl
    rw [hrow, State.refreshBoundary, if_neg (by simp [hp])]
    dsimp only
    rw [chooseSource_eq]
    dsimp only
    rw [present_presentation, hpresented]
    rfl
  have hsource : t.scan.source =
    if dark then .dark else if s.node = .test then (s.scan.pattern.map Source.pattern).getD .dark else .picture := rfl
  refine ⟨hexec, fun r c colour hr hc hcolour =>
    ⟨⟨length_rowLevels t r, rowLevels_getD t r hc hcolour⟩, fun hdark => ?_, fun hlit htest => ?_,
      fun hlit hne hframes shown hrole hmem => ?_⟩⟩
  · exact driveLevel_of_dark (hsource.trans (if_pos hdark)) r c colour
  · rw [if_neg hlit, if_pos htest] at hsource
    have hpattern (p : Pattern) (h : s.scan.pattern = some p) (colour : Nat) :
        t.driveLevel r c colour = p.level r c colour :=
      driveLevel_of_pattern (by rw [hsource, h]; rfl) r c colour
    refine ⟨fun red green blue h => ⟨hpattern _ h 0, hpattern _ h 1, hpattern _ h 2⟩, fun h => ?_, fun h => ?_⟩
    · have hlevel : 2047 * c < 2 ^ 16 := by omega
      rw [hpattern _ h, Pattern.level, BitVec.toNat_ofNat, Nat.mod_eq_of_lt hlevel]
    · exact hpattern _ h colour
  · rw [if_neg hlit, if_neg hne] at hsource
    have htframes : FramesOk t.frames := by
      have hkept := hframes.present
      rwa [hpresented] at hkept
    exact driveLevel_of_picture hsource htframes hrole (mem_buffers.mpr hmem) r c colour

end Sys2Proof.Machine
end

section
/-! The Thermal Monitor: the sample timer (R68), good readings (R70, R72 to R75, R78), measurement faults (R71) and READ
TEMPERATURE (R79). -/

namespace Sys2Proof.Machine

-- One theorem after another, as in the tests: side by side each would hold a thread and its stack.
set_option Elab.async false

/-! ### READ TEMPERATURE (R79) -/

/-- Table 9-19: the encoding of an absent reading. -/
theorem readingWord_eq (reading : Option Int) :
    readingWord reading = (reading.map (BitVec.ofInt 16)).getD 0x8000#16 := by
  cases reading <;> rfl

/-- Table 9-19: the encoding of an absent band. -/
theorem bandWord_eq (band : Option Nat) : bandWord band = (band.map (BitVec.ofNat 16)).getD 65535#16 := by
  cases band <;> rfl

/-- Settles O30: no owner's check stands in the way, so the record is the monitor's words. -/
theorem readTemperatureReports : Obligations.ReadTemperatureReports := by
  intro h s ho hn hroom
  rw [← readingWord_eq, ← bandWord_eq]
  exact exec_offered_accepted .readTemperature ho rfl (availableIn_of_ne_loading hn (by simp)) rfl (fun _ => hroom)

/-! ### The sample timer (R68, R69) -/

/-- Settles O50: the timer runs, so the outstanding request decides. -/
theorem sampleTimerExpires : Obligations.SampleTimerExpires := by
  intro s time ht interval
  have hexec : exec .sampleTimerExpiry s = .next s.sampleTimerExpiry := rfl
  rw [hexec]
  unfold State.sampleTimerExpiry
  rw [ht]
  exact ⟨fun hr => by rw [hr]; rfl, fun limit hr => by rw [hr]; rfl⟩

/-! ### The parts of a measurement (R70 to R75, R78) -/

theorem signedIn_iff (lo hi : Int) (w : Word) : signedIn lo hi w = true ↔ lo ≤ w.toInt ∧ w.toInt ≤ hi := by
  simp [signedIn]

/-- R70, R71: STANDBY, HOLD and DARK. -/
theorem appliesAtOnce_iff (s : State) :
    s.appliesAtOnce = true ↔ s.node = .standby ∨ s.frames.presentation ≠ .live := by
  unfold State.appliesAtOnce
  cases s.frames.presentation <;> simp

/-- R70, step 2. -/
theorem placeReading_eq (s : State) (t : Int) :
    s.placeReading t =
      if s.thermal.sensor = .fault then placeFresh s.banks.live t
      else placeHysteresis s.banks.live t s.thermal.applied := by
  unfold State.placeReading
  cases s.thermal.sensor <;> rfl

/-- R70, R71, R74, R75: a band placed by a measurement moves the applied band, waits, or is the applied band already. -/
theorem measuredBand_eq (s : State) (b : Nat) :
    (s.setPlaced b).applyAtMeasurement =
      { s with
        thermal :=
          { s.thermal with
            applied := if s.node = .standby ∨ s.frames.presentation ≠ .live then b else s.thermal.applied
            pending :=
              if b ≠ s.thermal.applied ∧ ¬ (s.node = .standby ∨ s.frames.presentation ≠ .live) then some b
              else none }
        queue :=
          if b ≠ s.thermal.applied ∧ (s.node = .standby ∨ s.frames.presentation ≠ .live) then
            s.queue.raise s.address .bandChanged (some (BitVec.ofNat 16 b))
          else s.queue } := by
  have hwaits : ((s.node = .standby ∨ s.frames.presentation ≠ .live) ∨ b = s.thermal.applied) ↔
      ¬ (b ≠ s.thermal.applied ∧ ¬ (s.node = .standby ∨ s.frames.presentation ≠ .live)) := by
    tauto
  simp only [setPlaced_applyAtMeasurement, appliesAtOnce_iff, hwaits, ite_not, and_comm]

/-- R78: the cutoff entered, left or kept. -/
theorem evaluateCutoff_eq (s : State) (t : Int) :
    let enters := s.thermal.cutoff = .clear ∧ s.banks.live.cutoff ≤ t
    let leaves := s.thermal.cutoff = .cut ∧ t < s.banks.live.cutoff - s.banks.live.cutoffHysteresis
    s.evaluateCutoff t =
      { s with
        thermal := { s.thermal with cutoff := if enters then .cut else if leaves then .clear else s.thermal.cutoff }
        scan := if enters then { s.scan with source := .dark } else s.scan
        queue :=
          if enters then s.queue.raise s.address .cutoffEntered (some (BitVec.ofInt 16 t))
          else if leaves then s.queue.raise s.address .cutoffLeft (some (BitVec.ofInt 16 t))
          else s.queue } := by
  unfold State.evaluateCutoff
  cases hc : s.thermal.cutoff with
  | clear =>
    by_cases henters : s.banks.live.cutoff ≤ t
    · simp [henters, State.forceDark, State.raise]
    · have hkept : ({ s with thermal := { s.thermal with cutoff := .clear } } : State) = s := by rw [← hc]
      simp [henters, hkept]
  | cut =>
    by_cases hleaves : t < s.banks.live.cutoff - s.banks.live.cutoffHysteresis
    · simp [hleaves, State.raise]
    · have hkept : ({ s with thermal := { s.thermal with cutoff := .cut } } : State) = s := by rw [← hc]
      simp [hleaves, hkept]

/-! ### Measurements (R69 to R71) -/

theorem sensorAnswer_good {s : State} {limit : Nat} {reading : Word} (hr : s.thermal.request = some limit)
    (hlo : -80 ≤ reading.toInt) (hhi : reading.toInt ≤ 250) :
    s.sensorAnswer reading = s.endRequest.goodReading reading.toInt := by
  simp only [State.sensorAnswer, hr, (signedIn_iff _ _ _).mpr ⟨hlo, hhi⟩, if_true]

theorem sensorAnswer_outOfRange {s : State} {limit : Nat} {reading : Word} (hr : s.thermal.request = some limit)
    (hout : reading.toInt < -80 ∨ 250 < reading.toInt) :
    s.sensorAnswer reading = s.endRequest.measurementFault outOfRangeCause := by
  have hnot : ¬ signedIn (-80) 250 reading = true := by rw [signedIn_iff]; omega
  simp only [State.sensorAnswer, hr, if_neg hnot]

/-- R71: SENSOR FAULT, then the fallback band of the live bank. -/
theorem endRequest_measurementFault_eq (s : State) (cause : Word) :
    let fallback := (s.banks.live.timing.getD 3 0).toNat
    let atOnce := s.node = .standby ∨ s.frames.presentation ≠ .live
    let faulted := s.queue.raise s.address .sensorFault (some cause)
    s.endRequest.measurementFault cause =
      { s with
        thermal :=
          { s.thermal with
            request := none
            sensor := .fault
            applied := if atOnce then fallback else s.thermal.applied
            pending := if fallback ≠ s.thermal.applied ∧ ¬ atOnce then some fallback else none }
        queue :=
          if fallback ≠ s.thermal.applied ∧ atOnce then
            faulted.raise s.address .bandChanged (some (BitVec.ofNat 16 fallback))
          else faulted } := by
  intro fallback atOnce faulted
  unfold State.measurementFault
  dsimp only
  rw [measuredBand_eq]
  rfl

/-- Settles O52: the two faults differ in their cause only. -/
theorem faultsFallBack : Obligations.FaultsFallBack := by
  intro s limit hr fallback moves atOnce faulted
  have hfault (cause : Word) : s.endRequest.measurementFault cause = faulted cause :=
    endRequest_measurementFault_eq s cause
  refine ⟨?_, fun reading hout => ?_⟩
  · have hexec : exec .answerLimitExpiry s = .next s.answerLimitExpiry := rfl
    rw [hexec, ← hfault, State.answerLimitExpiry, hr]
    rfl
  · have hexec : exec (.sensorAnswer reading) s = .next (s.sensorAnswer reading) := rfl
    rw [hexec, ← hfault, sensorAnswer_outOfRange hr hout]
    rfl

/-- Settles O51: the band is placed and applied or left waiting, and on what that leaves the cutoff is decided. -/
theorem goodReadingsPlaceAndCut : Obligations.GoodReadingsPlaceAndCut := by
  intro s reading
  have hexec : exec (.sensorAnswer reading) s = .next (s.sensorAnswer reading) := rfl
  refine ⟨fun hr => ?_, ?_⟩
  · rw [hexec, State.sensorAnswer, hr]
  · intro limit hr hlo hhi t placed moves atOnce banded enters leaves
    have hplaced : s.endRequest.placeReading t = placed := placeReading_eq s.endRequest t
    have hword : BitVec.ofInt 16 t = reading := BitVec.ofInt_toInt
    rw [hexec, sensorAnswer_good hr hlo hhi]
    congr 1
    unfold State.goodReading
    dsimp only
    rw [hplaced, measuredBand_eq, evaluateCutoff_eq, hword]
    rfl

end Sys2Proof.Machine
end

section
/-! The Table Store's commands at acceptance (R82, R84 to R86, R90) and the completions of a store's phases (R86 to
R88, R122). -/

namespace Sys2Proof.Machine

-- One theorem after another, as in the tests: side by side each would hold a thread and its stack.
set_option Elab.async false

/-! ### Images, records and the newest generation -/

namespace Store

theorem setImage_eq (st : Store) (i : ImageId) (m : Image) :
    st.setImage i m =
      { st with
        image0 := if i = .image0 then m else st.image0
        image1 := if i = .image1 then m else st.image1 } := by
  cases i <;> rfl

theorem setRecord_eq (st : Store) (i : ImageId) (r : ImageRecord) :
    st.setRecord i r =
      { st with
        record0 := if i = .image0 then r else st.record0
        record1 := if i = .image1 then r else st.record1 } := by
  cases i <;> rfl

theorem image_eq (st : Store) (i : ImageId) : st.image i = if i = .image0 then st.image0 else st.image1 := by
  cases i <;> rfl

/-- R85: the newest valid generation, 0 where no image is valid. -/
def newestGeneration (st : Store) : Nat :=
  match st.newest with
  | none => 0
  | some (_, g) => g.toNat

/-- R85: a store writes one more than the newest valid generation. -/
theorem newGeneration_eq (st : Store) : st.newGeneration = BitVec.ofNat 32 (st.newestGeneration + 1) := by
  unfold newGeneration newestGeneration
  cases st.newest with
  | none => rfl
  | some newest => dsimp only; bv_omega

/-- R85: a store's target and the generation it follows, both read off the newest valid image. -/
theorem target_newestGeneration (st : Store) :
    (st.target, st.newestGeneration) = st.newest.elim (.image0, 0) fun newest => (newest.1.other, newest.2.toNat) := by
  unfold target newestGeneration
  cases st.newest <;> rfl

/-- R82: what depends on the newest valid image, from the two records. -/
theorem newest_elim {α : Type} (st : Store) (absent : α) (f : ImageId × BitVec 32 → α) :
    st.newest.elim absent f =
      match st.record0, st.record1 with
      | .valid a, .valid b => if b.toNat ≤ a.toNat then f (.image0, a) else f (.image1, b)
      | .valid a, _ => f (.image0, a)
      | _, .valid b => f (.image1, b)
      | _, _ => absent := by
  rw [newest, newestOf_eq]
  cases st.record0 with
  | valid a =>
    cases st.record1 with
    | valid b => dsimp only; split <;> rfl
    | unread | invalid => rfl
  | unread | invalid => cases st.record1 <;> rfl

/-- R84, step 2. -/
theorem exhausted_iff (st : Store) : st.exhausted = true ↔ st.newestGeneration = 4294967295 := by
  unfold exhausted newestGeneration
  cases st.newest with
  | none => simp
  | some newest => exact beq_iff_eq.trans BitVec.toNat_inj.symm

/-- R86: the store that ERASE begins with, field by field. -/
theorem beginErase_eq (st : Store) :
    st.beginErase =
      { st with
        image0 := if st.target = .image0 then .unwritten else st.image0
        image1 := if st.target = .image1 then .unwritten else st.image1
        record0 := if st.target = .image0 then .invalid else st.record0
        record1 := if st.target = .image1 then .invalid else st.record1
        unit := .storing .erase st.target (BitVec.ofNat 32 (st.newestGeneration + 1)) } := by
  unfold beginErase
  rw [setImage_eq, setRecord_eq, newGeneration_eq]

end Store

/-! ### STORE TABLES and LOAD STORED (R84 to R86, R90) -/

/-- R108: a command that passes its owner's checks and finds no entry free for its reply. -/
theorem exec_offered_noEntry (c : Command) {s : State} {h : Header} (ho : Offered s h) (hw : c.wf = true)
    (hn : s.node ≠ .loading) (hnc : ∀ kind frame, c ≠ .commit kind frame) (hc : s.ownerCheck h.mode c = none)
    (he : needsEntry c = true) (hq : 12 ≤ s.queue.entries.length) :
    exec (c.row h) s = .next (refusal s h c.code c.params 3#16) := by
  have hv := lateStages_noEntry (c.parse_code hw) (availableIn_of_ne_loading hn hnc) hc he hq
  simpa [afterRefusal_eq_self s hw hnc, dispositionCode] using
    exec_refused ho (c.params_length hw) (row_words h c) hv

theorem outstanding_iff (c : CommitState) : c.outstanding = true ↔ c ≠ .none := by
  cases c <;> simp [CommitState.outstanding]

/-- Settles O27: by the two records, the statement's choice is the model's target and newest generation. -/
theorem storeTablesBegins : Obligations.StoreTablesBegins := by
  intro h s ho hn chosen
  have hchosen : (s.store.target, s.store.newestGeneration) = chosen :=
    s.store.target_newestGeneration.trans (s.store.newest_elim _ _)
  clear_value chosen
  subst hchosen
  dsimp only
  rw [← Store.beginErase_eq]
  have refused {d : Disposition} (hc : s.checkStoreTables = some d) :
      exec (.storeTables h) s = .next (refusal s h 0x20#16 [] (dispositionCode d)) :=
    exec_offered_refused .storeTables ho rfl hn (by simp) hc
  have passes (hu : s.store.unit = .idle) (hex : s.store.newestGeneration ≠ 4294967295) :
      s.checkStoreTables = none := by
    simp [State.checkStoreTables, Store.exhausted_iff, hu, hex]
  refine ⟨fun hu => ?_, fun hu hex => ?_, fun hu hex hfull => ?_, fun hu hex hroom => ?_⟩
  · exact refused (d := .busy) (by simp [State.checkStoreTables, hu])
  · exact refused (d := .invalid) (by simp [State.checkStoreTables, Store.exhausted_iff, hu, hex])
  · exact exec_offered_noEntry .storeTables ho rfl hn (by simp) (passes hu hex) rfl hfull
  · exact exec_offered_accepted .storeTables ho rfl (availableIn_of_ne_loading hn (by simp)) (passes hu hex)
      fun _ => hroom

/-- Settles O28: by the two records, the statement's source is the model's newest valid image. -/
theorem loadStoredBegins : Obligations.LoadStoredBegins := by
  intro h s ho hn source
  have hsource : s.store.newest.map Prod.fst = source := by
    have helim : s.store.newest.map Prod.fst = s.store.newest.elim none fun newest => some newest.1 := by
      cases s.store.newest <;> rfl
    exact helim.trans (s.store.newest_elim _ _)
  clear_value source
  subst hsource
  have refused {d : Disposition} (hc : s.checkLoadStored = some d) :
      exec (.loadStored h) s = .next (refusal s h 0x21#16 [] (dispositionCode d)) :=
    exec_offered_refused .loadStored ho rfl hn (by simp) hc
  have passes (hcommit : s.banks.commit = .none) (hu : s.store.unit = .idle) : s.checkLoadStored = none := by
    simp [State.checkLoadStored, outstanding_iff, hcommit, hu]
  refine ⟨fun hcommit => ?_, fun hcommit hbusy => ?_, fun hcommit hu hroom => ?_⟩
  · exact refused (d := .locked) (by simp [State.checkLoadStored, outstanding_iff, hcommit])
  · by_cases hu : s.store.unit = .idle
    · exact exec_offered_noEntry .loadStored ho rfl hn (by simp) (passes hcommit hu) rfl
        (hbusy.resolve_left (not_not_intro hu))
    · exact refused (d := .busy) (by simp [State.checkLoadStored, outstanding_iff, hcommit, hu])
  · exact exec_offered_accepted .loadStored ho rfl (availableIn_of_ne_loading hn (by simp)) (passes hcommit hu)
      fun _ => hroom

/-! ### The phases of a store (R86 to R88) -/

theorem imageCode_eq (i : ImageId) : imageCode i = if i = .image0 then 0#16 else 1#16 := by cases i <;> rfl

/-- Table 9-15: a generation's two words, high first. -/
theorem generationWords_eq (g : BitVec 32) : generationWords g = [(g >>> 16).setWidth 16, g.setWidth 16] := by
  have hhigh : g.extractLsb' 16 16 = (g >>> 16).setWidth 16 := by
    apply BitVec.eq_of_toNat_eq
    simp
  rw [generationWords, hhigh]

theorem eraseCompletion_of_unit {s : State} {target : ImageId} {g : BitVec 32}
    (hu : s.store.unit = .storing .erase target g) :
    s.eraseCompletion = { s with store := { s.store with unit := .storing .program target g } } := by
  unfold State.eraseCompletion
  rw [hu]

/-- R87: the target's memory alone is written. -/
theorem programCompletion_of_unit {s : State} {target : ImageId} {g : BitVec 32} (defects : List Defect)
    (hu : s.store.unit = .storing .program target g) :
    s.programCompletion defects =
      { s with store :=
        { s.store with
          image0 := if target = .image0 then .programmed (programmedTables s.banks.live defects) else s.store.image0
          image1 := if target = .image1 then .programmed (programmedTables s.banks.live defects) else s.store.image1
          unit := .storing .verify target g } } := by
  unfold State.programCompletion
  rw [hu]
  dsimp only
  rw [Store.setImage_eq]

/-- R88: VERIFY compares what the target's memory holds with the live bank. -/
theorem verifies_eq_decide {s : State} {target : ImageId} {tables : Bank}
    (hm : (if target = .image0 then s.store.image0 else s.store.image1) = .programmed tables) :
    s.verifies target = decide (tables = s.banks.live) := by
  rw [State.verifies, Store.image_eq, hm, Bool.eq_iff_iff]
  simp [Image.tables]

/-- R88, R122: VERIFY finds every entry equal. -/
theorem verifyCompletion_of_equal {s : State} {target : ImageId} {g : BitVec 32}
    (hu : s.store.unit = .storing .verify target g) (hv : s.verifies target = true) :
    s.verifyCompletion =
      { s with
        store :=
          { s.store with
            image0 :=
              if target = .image0 then .written g s.banks.live (imageCheck g s.banks.live) else s.store.image0
            image1 :=
              if target = .image1 then .written g s.banks.live (imageCheck g s.banks.live) else s.store.image1
            record0 := if target = .image0 then .valid g else s.store.record0
            record1 := if target = .image1 then .valid g else s.store.record1
            unit := .idle }
        queue := s.queue.complete .storeResult (storeResultWords true target g) } := by
  unfold State.verifyCompletion
  rw [hu]
  dsimp only
  rw [hv, if_pos rfl, Store.setImage_eq, Store.setRecord_eq]

/-- R88, R122: VERIFY finds an entry that differs. -/
theorem verifyCompletion_of_differs {s : State} {target : ImageId} {g : BitVec 32}
    (hu : s.store.unit = .storing .verify target g) (hv : s.verifies target = false) :
    s.verifyCompletion =
      { s with
        store := { s.store with unit := .idle }
        queue := s.queue.complete .storeResult (storeResultWords false target g) } := by
  unfold State.verifyCompletion
  rw [hu]
  dsimp only
  rw [hv, if_neg Bool.false_ne_true]

/-- Settles O54: each phase's completion in turn, VERIFY by what its comparison finds. -/
theorem storePhasesComplete : Obligations.StorePhasesComplete := by
  intro s target generation withImage result
  have hresult (ok : Bool) : s.queue.complete .storeResult (storeResultWords ok target generation) =
      result (if ok then 0#16 else 1#16) := by
    rw [complete_eq, storeResultWords, imageCode_eq, generationWords_eq]
  refine ⟨fun hu => congrArg Host.Outcome.next (eraseCompletion_of_unit hu), fun hu => ?_,
    fun tables hu hm => ⟨fun heq => ?_, fun hne => ?_⟩⟩
  · exact ⟨congrArg Host.Outcome.next (programCompletion_of_unit [] hu),
      fun defects => congrArg Host.Outcome.next (programCompletion_of_unit defects hu)⟩
  · have hdone := verifyCompletion_of_equal hu ((verifies_eq_decide hm).trans (decide_eq_true heq))
    rw [hresult] at hdone
    exact congrArg Host.Outcome.next hdone
  · have hdone := verifyCompletion_of_differs hu ((verifies_eq_decide hm).trans (decide_eq_false hne))
    rw [hresult] at hdone
    exact congrArg Host.Outcome.next hdone

end Sys2Proof.Machine
end

section
/-! The Reply Queue and the replay cache (R99, R119, R125, R127): what each operation on the queue keeps of its limits,
and the tier 3 statement that every step keeps them. -/

namespace Sys2Proof.Machine

-- One theorem after another, as in the tests: side by side each would hold a thread and its stack.
set_option Elab.async false

/-! ### Operations on the queue -/

theorem noticeCount_eq_length (es : List Entry) : noticeCount es = (es.filterMap Entry.noticeKind).length := by
  rw [noticeCount, List.length_filterMap_eq_countP]

theorem hasNoticeRoom_append_eq_false {es : List Entry} (e : Entry) (h : hasNoticeRoom es = false) :
    hasNoticeRoom (es ++ [e]) = false := by
  rw [Bool.eq_false_iff, ne_eq, hasNoticeRoom_iff] at h ⊢
  intro hroom
  simp only [noticeCount, List.length_append, List.countP_append] at hroom h
  omega

/-- The counts and details of notices play no part in the limits. -/
theorem QueueOk.of_kinds {q q' : ReplyQueue} (h : QueueOk q)
    (he : q'.entries.map Entry.noticeKind = q.entries.map Entry.noticeKind)
    (hb : q'.backlog.map Held.kind = q.backlog.map Held.kind) : QueueOk q' := by
  have hlen : q'.entries.length = q.entries.length := by simpa using congrArg List.length he
  have hkinds : q'.entries.filterMap Entry.noticeKind = q.entries.filterMap Entry.noticeKind := by
    simpa [List.filterMap_map] using congrArg (List.filterMap id) he
  have hcount : noticeCount q'.entries = noticeCount q.entries := by
    rw [noticeCount_eq_length, noticeCount_eq_length, hkinds]
  have hnil : q'.backlog = [] ↔ q.backlog = [] := by
    rw [← List.map_eq_nil_iff (f := Held.kind), hb, List.map_eq_nil_iff]
  unfold QueueOk noticeKinds hasNoticeRoom hasFreeEntry at *
  rwa [hlen, hcount, hkinds, hb, ne_eq, hnil]

theorem noticeKind_countInto (k : NoticeKind) (detail : Option Word) (e : Entry) :
    (countInto k detail e).noticeKind = e.noticeKind := by
  unfold countInto
  split
  · split <;> rfl
  · rfl
  · rfl

theorem kind_countIntoHeld (k : NoticeKind) (detail : Option Word) (h : Held) :
    (countIntoHeld k detail h).kind = h.kind := by
  unfold countIntoHeld
  split <;> rfl

/-- R125: a kind in neither the list nor the backlog. -/
theorem not_mem_noticeKinds {q : ReplyQueue} {k : NoticeKind} (he : q.entries.any (Entry.isNoticeOf k) = false)
    (hb : q.backlog.any (fun h => h.kind == k) = false) : k ∉ noticeKinds q := by
  simp only [List.any_eq_false, Entry.isNoticeOf, beq_iff_eq] at he hb
  simp only [noticeKinds, List.mem_append, List.mem_filterMap, List.mem_map, not_or, not_exists, not_and]
  exact ⟨he, hb⟩

/-- R125: an occurrence of a notice kind. -/
theorem QueueOk.raise {q : ReplyQueue} (h : QueueOk q) (id : Identity) (k : NoticeKind) (detail : Option Word) :
    QueueOk (q.raise id k detail) := by
  rcases q.raise_cases id k detail with
    ⟨-, e⟩ | ⟨-, ⟨-, e⟩ | ⟨hentries, ⟨-, e⟩ | ⟨hbacklog, ⟨hroom, e⟩ | ⟨hroom, e⟩⟩⟩⟩ <;> rw [e]
  · exact h
  · exact h.of_kinds (by simp [noticeKind_countInto]) rfl
  · exact h.of_kinds rfl (by simp [kind_countIntoHeld])
  · obtain ⟨-, -, hnodup, hfull⟩ := h
    have hnew := not_mem_noticeKinds hentries hbacklog
    have hnil : q.backlog = [] := by_contra fun hne => by simp [hfull hne] at hroom
    obtain ⟨hfree, hnotices⟩ := (hasNoticeRoom_iff _).mp hroom
    rw [noticeKinds, hnil, List.map_nil, List.append_nil] at hnodup hnew
    refine ⟨by simpa using hfree, by simpa [noticeCount_append_notice] using hnotices, ?_, fun hne => absurd hnil hne⟩
    simpa [noticeKinds, hnil, Entry.noticeKind, Identity.notice] using hnodup.concat hnew
  · obtain ⟨hlen, hcount, hnodup, -⟩ := h
    have hnew := not_mem_noticeKinds hentries hbacklog
    refine ⟨hlen, hcount, ?_, fun _ => hroom⟩
    rw [noticeKinds, List.map_append, ← List.append_assoc]
    exact List.nodup_append_comm.mp (List.nodup_cons.mpr ⟨hnew, hnodup⟩)

/-- R108, R120: an entry that is no notice, appended where there is room for it. -/
theorem QueueOk.append {q : ReplyQueue} (h : QueueOk q) {e : Entry} (he : e.noticeKind = none)
    (hfree : hasFreeEntry q.entries = true) : QueueOk (q.append e) := by
  obtain ⟨-, hcount, hnodup, hfull⟩ := h
  have hlt : q.entries.length < 12 := by simpa [hasFreeEntry] using hfree
  exact ⟨by simpa [ReplyQueue.append] using hlt, by simpa [ReplyQueue.append, noticeCount, he] using hcount,
    by simpa [noticeKinds, ReplyQueue.append, he] using hnodup,
    fun hne => hasNoticeRoom_append_eq_false e (hfull hne)⟩

/-- R122: a reservation turned into its result. -/
theorem QueueOk.complete {q : ReplyQueue} (h : QueueOk q) (kind : ReplyKind) (result : List Word) :
    QueueOk (q.complete kind result) := by
  obtain ⟨-, hkinds, -⟩ := q.complete_entries kind result
  exact h.of_kinds hkinds rfl

/-- R129: kinds taken from the backlog. -/
theorem QueueOk.filterBacklog {q : ReplyQueue} (h : QueueOk q) (mask : BitVec 9) (p : Held → Bool) :
    QueueOk { q with mask := mask, backlog := q.backlog.filter p } := by
  obtain ⟨hlen, hcount, hnodup, hfull⟩ := h
  have hsub : (q.backlog.filter p).Sublist q.backlog := List.filter_sublist
  exact ⟨hlen, hcount, hnodup.sublist ((hsub.map _).append_left _), fun hne => hfull fun hnil => hne (by simp [hnil])⟩

/-- R128: admission ends where no room is left or the backlog is empty. -/
theorem QueueOk.admitHeld (id : Identity) (mask : BitVec 9) (held : List Held) (es : List Entry)
    (hlen : es.length ≤ Config.maxEntries) (hcount : noticeCount es ≤ Config.maxNotices)
    (hnodup : (es.filterMap Entry.noticeKind ++ held.map Held.kind).Nodup) :
    QueueOk ⟨(Machine.admitHeld id held es).1, (Machine.admitHeld id held es).2, mask⟩ := by
  induction held generalizing es with
  | nil => exact ⟨hlen, hcount, hnodup, fun hne => absurd rfl hne⟩
  | cons h hs ih =>
    unfold Machine.admitHeld
    split
    · next hroom =>
      obtain ⟨hfree, hnotices⟩ := (hasNoticeRoom_iff _).mp hroom
      exact ih _ (by simpa using hfree) (by simpa [noticeCount_append_notice] using hnotices)
        (by simpa [Entry.noticeKind, Identity.notice] using hnodup)
    · next hroom => exact ⟨hlen, hcount, hnodup, fun _ => by simpa using hroom⟩

/-- R131: the drain of a COLLECT. -/
theorem QueueOk.drainWith (id : Identity) (fuel room : Nat) (q : ReplyQueue) (h : QueueOk q) :
    QueueOk (Machine.drainWith id fuel room q).1 := by
  induction fuel generalizing room q with
  | zero => exact h
  | succ fuel ih =>
    rcases drainWith_cases id fuel room q with ⟨r, rest, he, -, hd⟩ | ⟨hd, -⟩ <;> rw [hd]
    · obtain ⟨hlen, hcount, hnodup, -⟩ := h
      have hrest : rest.Sublist q.entries := he ▸ List.sublist_cons_self _ _
      exact ih _ _ (QueueOk.admitHeld id q.mask q.backlog rest (hrest.length_le.trans hlen)
        ((hrest.countP_le).trans hcount) (hnodup.sublist ((hrest.filterMap _).append_right _)))
    · exact h

/-! ### The two invariants together

A replayed record enters the queue from the cache (R105), so the queue's invariant leans on the cache's. -/

/-- The Reply Queue and the replay cache are as R99 and R119 to R127 have them. -/
structure RepliesOk (s : State) : Prop where
  queue : QueueOk s.queue
  cache : CacheOk s.commands

/-- R99, R109: a command's reply has the REPLAY flag clear. -/
theorem replyTo_content {s : State} {opening : Word} {c : Command} {r : Record}
    (h : s.replyTo opening c = some r) : r.replay = false ∧ ∃ kind body, r.content = .reply kind body := by
  cases c with
  | identify | readTable | readStatus | readTemperature => cases h; exact ⟨rfl, _, _, rfl⟩
  | _ => cases h

theorem noticeKind_of_reply {r : Record} {kind : ReplyKind} {body : List Word} (h : r.content = .reply kind body) :
    (Entry.record r).noticeKind = none := by
  obtain ⟨position, logicalId, replay, content⟩ := r
  cases h
  rfl

namespace RepliesOk

variable {s t : State}

theorem of_same (h : RepliesOk s) (hq : t.queue = s.queue := by simp) (hc : t.commands = s.commands := by simp) :
    RepliesOk t :=
  ⟨hq ▸ h.queue, hc ▸ h.cache⟩

/-- The Command Unit changed, the cache kept or emptied. -/
theorem withCommands (h : RepliesOk s) {c : CommandUnit}
    (hc : c.replayCache = s.commands.replayCache ∨ c.replayCache = none) : RepliesOk { s with commands := c } := by
  refine ⟨h.queue, fun r hr => ?_⟩
  rcases hc with hc | hc
  · exact h.cache r (hc ▸ hr)
  · rw [hc] at hr
    cases hr

theorem raise (h : RepliesOk s) (k : NoticeKind) (detail : Option Word) : RepliesOk (s.raise k detail) :=
  ⟨h.queue.raise s.address k detail, h.cache⟩

theorem reset (hq : t.queue = resetQueue := by rfl) (hc : t.commands = resetCommandUnit := by rfl) : RepliesOk t := by
  refine ⟨?_, fun r hr => ?_⟩
  · rw [hq]
    exact ⟨Nat.zero_le _, Nat.zero_le _, List.nodup_nil, fun hne => absurd rfl hne⟩
  · rw [hc] at hr
    cases hr

theorem appendReply (h : RepliesOk s) {r : Record} {kind : ReplyKind} {body : List Word}
    (hr : r.content = .reply kind body) (hfree : hasFreeEntry s.queue.entries = true) :
    RepliesOk { s with queue := s.queue.append (.record r) } :=
  ⟨h.queue.append (noticeKind_of_reply hr) hfree, h.cache⟩

/-! ### Bands, commits and frames -/

theorem applyPending (h : RepliesOk s) : RepliesOk s.applyPending := by
  unfold State.applyPending
  split
  · exact h
  · exact (h.of_same (t := { s with thermal := _ })).raise _ _

theorem applyAtMeasurement (h : RepliesOk s) : RepliesOk s.applyAtMeasurement := by
  unfold State.applyAtMeasurement
  split
  · exact h.applyPending
  · exact h

theorem thermalAtCommit (h : RepliesOk s) (dirty : BitVec 6) : RepliesOk (s.thermalAtCommit dirty) := by
  have happlied (b : Nat) : RepliesOk { s with thermal := { s.thermal with applied := b, pending := none } } :=
    h.of_same
  unfold State.thermalAtCommit
  split
  · dsimp only
    split
    · exact happlied _
    · exact (happlied _).raise _ _
  · exact h

theorem applyCommit (h : RepliesOk s) : RepliesOk s.applyCommit :=
  of_same (((thermalAtCommit (s := { s with banks := _ }) h.of_same _).raise _ _)) rfl rfl

theorem commitAtShow (h : RepliesOk s) (k : Word) : RepliesOk (s.commitAtShow k) := by
  unfold State.commitAtShow
  split
  · exact h
  · split
    · split
      · exact h.of_same
      · exact h.applyCommit
    · exact h
  · split
    · exact h
    · exact h.applyCommit

theorem framesAtShow (h : RepliesOk s) (k : Word) : RepliesOk (s.framesAtShow k) := by
  have hskip (u : State) (hu : RepliesOk u) : RepliesOk u.skipPending := by
    unfold State.skipPending
    split
    · exact hu
    · exact (hu.of_same (t := { u with frames := _ })).raise _ _
  have hpicture (u : State) (hu : RepliesOk u) : RepliesOk (State.framesAtShow.showPicture k u) := by
    unfold State.framesAtShow.showPicture
    split
    · exact (hskip u hu).of_same rfl rfl
    · exact hu.of_same
  unfold State.framesAtShow
  split
  · exact h
  · exact h.of_same
  · exact hpicture _ h.of_same
  · exact hpicture _ h.of_same

theorem takeShow (h : RepliesOk s) (k : Word) : RepliesOk (s.takeShow k) := by
  unfold State.takeShow
  split
  · exact h
  · exact ((h.commitAtShow k).applyPending).framesAtShow k

/-! ### Commands -/

/-- A command that passes its stages, carried out. -/
theorem perform (h : RepliesOk s) {opening mode : Word} {c : Command} (hp : PassesStages s mode c) :
    RepliesOk (s.perform opening c) := by
  have reserved (hneeds : needsEntry c = true) : RepliesOk (s.reserve opening) :=
    ⟨h.queue.append rfl (hp.room hneeds), h.cache⟩
  cases c with
  | commit kind frame =>
    dsimp only [State.perform]
    unfold State.acceptCommit
    split
    · exact h.of_same
    · exact h.of_same
    · exact applyCommit (s := { s with banks := _ }) h.of_same
    · exact h
  | storeTables => exact (reserved rfl).of_same rfl rfl
  | loadStored => exact (reserved rfl).of_same rfl rfl
  | setNotices mask =>
    dsimp only [State.perform]
    unfold State.setNotices
    split
    · exact h
    · exact ⟨h.queue.filterBacklog _ _, h.cache⟩
  | clearCounters => exact ⟨h.queue, h.cache⟩
  | _ => exact h.of_same (by simp [State.perform]) (by simp [State.perform])

theorem carryOut (h : RepliesOk s) {opening mode : Word} {c : Command} (hp : PassesStages s mode c) :
    RepliesOk (s.carryOut opening c) := by
  unfold State.carryOut
  cases hr : s.replyTo opening c with
  | none => exact h.perform hp
  | some r =>
    obtain ⟨hneeds, hsame⟩ := replyTo_eq_some (u := s) hr
    obtain ⟨-, kind, body, hreply⟩ := replyTo_content hr
    rw [hsame]
    exact h.appendReply hreply (hp.room hneeds)

theorem afterRefusal (h : RepliesOk s) (code : Word) (params : List Word) : RepliesOk (s.afterRefusal code params) := by
  unfold State.afterRefusal
  split
  · split
    · exact h.of_same
    · exact h
  · exact h

/-- R105: what is replayed is a reply, as the cache holds it. -/
theorem replay (h : RepliesOk s) : RepliesOk s.replay.1 := by
  unfold State.replay
  split
  · exact h
  · next r hr =>
    split
    · next hfree =>
      obtain ⟨-, kind, body, hreply⟩ := h.cache r hr
      exact h.appendReply hreply hfree
    · exact h

/-- R109: the cache holds the reply of the command, if it has made one. -/
theorem acceptUnicast (h : RepliesOk s) {mode code : Word} {params : List Word} {c : Command}
    (hv : s.lateStages mode code params = .accepted c) (sequence : BitVec 8) :
    RepliesOk (s.acceptUnicast sequence code c) := by
  obtain ⟨hav, hcheck, hroom⟩ := lateStages_eq_accepted hv
  have hset : RepliesOk { s with commands := { s.commands with unicastLast := some sequence } } :=
    h.withCommands (.inl rfl)
  exact ⟨(hset.carryOut (mode := mode) ⟨hav, hcheck, hroom⟩).queue, fun r hr => replyTo_content hr⟩

theorem acceptMulticast (h : RepliesOk s) {mode code : Word} {params : List Word} {c : Command}
    (hv : s.lateStages mode code params = .accepted c) (sequence : BitVec 8) :
    RepliesOk (s.acceptMulticast sequence code c) := by
  obtain ⟨hav, hcheck, hroom⟩ := lateStages_eq_accepted hv
  have hset : RepliesOk { s with commands := { s.commands with multicastLast := some sequence } } :=
    h.withCommands (.inl rfl)
  exact hset.carryOut (mode := mode) ⟨hav, hcheck, hroom⟩

/-- R102, R111: a CONTROL packet at the Command Unit. -/
theorem commandUnit (h : RepliesOk s) (header : Header) (code : Word) (params : List Word) :
    RepliesOk (s.commandUnit header code params).1 := by
  unfold State.commandUnit
  split
  · dsimp only
    unfold State.multicast
    split
    · exact h
    · split
      · exact h.afterRefusal code params
      · next hv => exact h.acceptMulticast hv _
  · dsimp only
    unfold State.unicast
    split
    · exact h
    · split
      · exact h.replay
      · exact h.withCommands (.inl rfl)
      · split
        · exact h.afterRefusal code params
        · next hv => exact h.acceptUnicast hv _

/-- R137: a changed position empties the cache. -/
theorem takePosition (h : RepliesOk s) (q : Word) : RepliesOk (s.takePosition q) := by
  unfold State.takePosition
  dsimp only
  split
  · exact h.of_same
  · exact withCommands (s := { s with address := _ }) h.of_same (.inr rfl)

theorem takeCollect (h : RepliesOk s) (mode value capacity : Word) (used : Nat) :
    RepliesOk (s.takeCollect mode value capacity used).1 := by
  unfold State.takeCollect
  split
  · exact ⟨QueueOk.drainWith _ _ _ _ h.queue, h.cache⟩
  · exact h

theorem keptByPackets : KeptByPackets RepliesOk where
  ring _ _ h := h.of_same
  out _ _ h := h.of_same
  pixel _ _ _ _ _ _ h := h.of_same
  showFrame _ k h := h.takeShow k
  collect _ mode value capacity used h := h.takeCollect mode value capacity used
  enum _ q h := h.takePosition q
  control _ header code params h := h.commandUnit header code params
  nodeReset _ _ := reset

/-! ### Events -/

theorem gainLock (h : RepliesOk s) : RepliesOk s.gainLock := by
  unfold State.gainLock
  split
  · exact h
  · split
    · exact h
    · exact h.of_same
    · next r _ _ => exact ⟨h.queue.raise s.address .linkRestored (some r.count), h.cache⟩

theorem lossOfLock (h : RepliesOk s) : RepliesOk s.lossOfLock := by
  unfold State.lossOfLock
  split
  · exact h
  · split
    · exact h
    · exact h.of_same

theorem linkNoticeTimerExpiry (h : RepliesOk s) : RepliesOk s.linkNoticeTimerExpiry := by
  unfold State.linkNoticeTimerExpiry
  split
  · exact h.of_same
  all_goals exact h

theorem forwardHead (h : RepliesOk s) : RepliesOk s.forwardHead := by
  unfold State.forwardHead
  split
  · exact h
  · exact h.of_same

theorem sendFill (h : RepliesOk s) : RepliesOk s.sendFill := by
  unfold State.sendFill
  split
  · exact h
  · split
    · exact h.of_same
    · exact h

theorem hardRelease (h : RepliesOk s) : RepliesOk s.hardRelease := by
  unfold State.hardRelease
  split
  · exact h.of_same
  · exact h

theorem evaluateCutoff (h : RepliesOk s) (t : Int) : RepliesOk (s.evaluateCutoff t) := by
  have hcut (c : Cutoff) : RepliesOk { s with thermal := { s.thermal with cutoff := c } } := h.of_same
  unfold State.evaluateCutoff
  split
  · split
    · exact ((hcut .cut).of_same (t := State.forceDark _)).raise _ _
    · exact h
  · split
    · exact (hcut .clear).raise _ _
    · exact h

/-- R70, R71: a placed band, applied or left pending. -/
theorem placed (h : RepliesOk s) (b : Nat) : RepliesOk (s.setPlaced b).applyAtMeasurement :=
  applyAtMeasurement h.of_same

theorem measurementFault (h : RepliesOk s) (cause : Word) : RepliesOk (s.measurementFault cause) :=
  placed (raise (s := { s with thermal := { s.thermal with sensor := .fault } }) h.of_same _ _) _

theorem sensorAnswer (h : RepliesOk s) (answer : Word) : RepliesOk (s.sensorAnswer answer) := by
  have hended : RepliesOk s.endRequest := h.of_same
  unfold State.sensorAnswer
  split
  · exact h
  · split
    · exact (placed (s := { s.endRequest with thermal := _ }) hended.of_same _).evaluateCutoff _
    · exact hended.measurementFault _

theorem answerLimitExpiry (h : RepliesOk s) : RepliesOk s.answerLimitExpiry := by
  have hended : RepliesOk s.endRequest := h.of_same
  unfold State.answerLimitExpiry
  split
  · exact h
  · exact hended.measurementFault _

theorem holdTimerExpiry (h : RepliesOk s) : RepliesOk s.holdTimerExpiry := by
  unfold State.holdTimerExpiry
  split
  · exact h
  · exact raise (s := { s with frames := _ }) h.of_same _ _
  · exact raise (s := State.forceDark { s with frames := _ }) h.of_same _ _
  · exact h

theorem verifyCompletion (h : RepliesOk s) : RepliesOk s.verifyCompletion := by
  unfold State.verifyCompletion
  split
  · exact ⟨h.queue.complete _ _, h.cache⟩
  all_goals exact h

theorem loadCompletion (h : RepliesOk s) : RepliesOk s.loadCompletion := by
  unfold State.loadCompletion
  split
  · next source _ =>
    have hbank : RepliesOk (s.loadBank source) := h.of_same
    exact ⟨h.queue.complete _ _, hbank.cache⟩
  all_goals exact h

theorem startupReadCompletion (h : RepliesOk s) : RepliesOk s.startupReadCompletion := by
  have hleave (u : State) (hu : RepliesOk u) : RepliesOk u.leaveLoading := by
    unfold State.leaveLoading
    dsimp only
    split
    · exact hu.of_same
    · exact hu.of_same
  unfold State.startupReadCompletion
  split
  · exact h
  · split
    · exact hleave _ (h.of_same rfl rfl)
    all_goals exact h

theorem holdsOfRows : HoldsOfRows fun s t => RepliesOk s → RepliesOk t where
  receive _ ws h := keptByPackets.receive h ws
  hardReset _ _ := reset
  hardRelease _ h := h.hardRelease
  gainLock _ h := h.gainLock
  lossOfLock _ h := h.lossOfLock
  linkNoticeTimerExpiry _ h := h.linkNoticeTimerExpiry
  forwardHead _ h := h.forwardHead
  sendFill _ h := h.sendFill
  resetNodeTakesEffect _ h := keptByPackets.resetNodeTakesEffect h
  holdTimerExpiry _ h := h.holdTimerExpiry
  sampleTimerExpiry _ h := h.of_same
  sensorAnswer _ reading h := h.sensorAnswer reading
  answerLimitExpiry _ h := h.answerLimitExpiry
  refreshBoundary _ h := h.of_same
  eraseCompletion _ h := h.of_same
  programCompletion _ _ h := h.of_same
  verifyCompletion _ h := h.verifyCompletion
  loadCompletion _ h := h.loadCompletion
  startupReadCompletion _ h := h.startupReadCompletion

end RepliesOk

/-- Settles O59: the queue's limits lean on the cache, whose record may be replayed, so every row keeps
the two together. -/
theorem replyQueueStaysBounded : Obligations.ReplyQueueStaysBounded := by
  intro s t hqueue hcache hstep
  obtain ⟨hqueue', hcache'⟩ := RepliesOk.holdsOfRows.step (fun _ _ h => ⟨h.queue, h.cache⟩) ⟨hqueue, hcache⟩ hstep
  exact ⟨hqueue', hcache'⟩

end Sys2Proof.Machine
end

section
/-! The judgement of a run of words read backwards (R106, R150, R153, R154): a run that is not damaged is a kind and a
payload with their length and check word, and a packet or a command read from words has those words. -/

namespace Sys2Proof

-- One theorem after another, as in the tests: side by side each would hold a thread and its stack.
set_option Elab.async false

/-! ### The layout of a run that is not damaged -/

/-- R150, R153: what is not damaged has its right length and check word, and is judged by its kind. -/
theorem judge_eq_damaged_or (raw : List Word) :
    judge raw = .damaged ∨
      ∃ kind payload, payload.length ≤ 1024 ∧ raw = withCheck kind payload ∧ judge raw = judgeKind kind payload := by
  unfold judge
  split
  · next kind length rest =>
    split
    · exact .inl rfl
    · next check reversed hrest =>
      dsimp only
      split
      · exact .inl rfl
      · next hlen =>
        split
        · exact .inl rfl
        · next hcheck =>
          split
          · exact .inl rfl
          · next hlength =>
            refine .inr ⟨kind, reversed.reverse, Nat.not_lt.mp hlen, ?_, rfl⟩
            have hcheck := not_not.mp hcheck
            have hlength : length = BitVec.ofNat 16 reversed.reverse.length := by
              rw [← not_not.mp hlength, BitVec.ofNat_toNat, BitVec.setWidth_eq]
            rw [List.reverse_eq_cons_iff.mp hrest, withCheck, hcheck, ← hlength]
            rfl
  · exact .inl rfl

/-- Table 9-5: a kind word is its upper byte over its code. -/
theorem kindWord_kindAttrs (w : Word) : kindWord (kindAttrs w) (kindCode w) = w := by
  apply BitVec.eq_of_toNat_eq
  simp only [kindWord, kindAttrs, kindCode, BitVec.toNat_ofNat]
  omega

theorem kindCode_eq_iff (w : Word) {n : Nat} (h : n < 256) : kindCode w = n ↔ w.setWidth 8 = BitVec.ofNat 8 n := by
  rw [← BitVec.toNat_inj, BitVec.toNat_setWidth, BitVec.toNat_ofNat, Nat.mod_eq_of_lt (a := n) h]
  rfl

/-! ### Packets read from a payload (R153) -/

/-- The packet has that upper byte of its kind word, that kind and that payload, and agrees with its length where the
payload is no longer than a packet's. -/
structure Packet.ReadFrom (p : Packet) (attrs : BitVec 8) (kind : Nat) (payload : List Word) : Prop where
  attrs_eq : p.attrs = attrs
  kind_eq : p.kind = kind
  payload_eq : p.payload = payload
  wf : payload.length ≤ 1024 → p.wf = true

variable {attrs : BitVec 8} {payload : List Word} {p : Packet}

theorem readFrom_of_parsePixel (h : parsePixel attrs payload = some p) : p.ReadFrom attrs 0x11 payload := by
  unfold parsePixel at h
  split at h
  · split at h
    · next hlen =>
      cases h
      exact ⟨rfl, rfl, rfl,
        fun hle => Bool.and_eq_true_iff.mpr ⟨beq_iff_eq.mpr hlen, decide_eq_true hle⟩⟩
    · cases h
  · cases h

theorem readFrom_of_parseCollect (h : parseCollect attrs payload = some p) : p.ReadFrom attrs 0x22 payload := by
  unfold parseCollect at h
  split at h
  · split at h
    · next hlen =>
      cases h
      exact ⟨rfl, rfl, by simp [Packet.payload, hlen], fun hle => decide_eq_true hle⟩
    · cases h
  · cases h

theorem readFrom_of_parseShow (h : parseShow attrs payload = some p) : p.ReadFrom attrs 0x12 payload := by
  unfold parseShow at h
  split at h <;> cases h
  exact ⟨rfl, rfl, rfl, fun _ => rfl⟩

theorem readFrom_of_parseEnum (h : parseEnum attrs payload = some p) : p.ReadFrom attrs 0x31 payload := by
  unfold parseEnum at h
  split at h <;> cases h
  exact ⟨rfl, rfl, rfl, fun _ => rfl⟩

theorem readFrom_of_parseLinkNotice (h : parseLinkNotice attrs payload = some p) :
    p.ReadFrom attrs 0x32 payload := by
  unfold parseLinkNotice at h
  split at h <;> cases h
  exact ⟨rfl, rfl, rfl, fun _ => rfl⟩

/-- Table 9-8: the count word and the parameters that end a CONTROL payload. -/
theorem parseParams_eq_some {hd : Header} {code : Word} {tail : List Word} (h : parseParams hd code tail = some p) :
    ∃ params, p = .control hd code params ∧ tail = BitVec.ofNat 16 params.length :: params ∧
      params.length ≤ Config.maxParams := by
  unfold parseParams at h
  split at h
  · cases h
  · next count params =>
    split at h
    · next hcount =>
      obtain ⟨hle, hlen⟩ := hcount
      cases h
      exact ⟨params, rfl, by simp [hlen], hlen.trans_le hle⟩
    · cases h

theorem readFrom_of_parseControl (h : parseControl attrs payload = some p) : p.ReadFrom attrs 0x21 payload := by
  unfold parseControl at h
  split at h
  · split at h
    · next hm =>
      split at h
      · obtain ⟨params, rfl, rfl, hlen⟩ := parseParams_eq_some h
        exact ⟨rfl, rfl, rfl, fun _ => by simpa [Packet.wf, Header.wf, hm] using hlen⟩
      · cases h
    · next hm =>
      obtain ⟨params, rfl, rfl, hlen⟩ := parseParams_eq_some h
      exact ⟨rfl, rfl, rfl, fun _ => by simpa [Packet.wf, Header.wf, hm] using hlen⟩
  · cases h

theorem ofParsed_eq_wellFormed {parsed : Option Packet} (h : Judged.ofParsed parsed = .wellFormed p) :
    parsed = some p := by
  cases parsed <;> cases h
  rfl

theorem ofParsed_ne_unknown (parsed : Option Packet) : Judged.ofParsed parsed ≠ .unknown := by
  cases parsed <;> exact fun h => nomatch h

/-- R153, R154: the packet that a kind and a payload are judged to be. -/
theorem readFrom_of_judgeKind {kind : Word} (h : judgeKind kind payload = .wellFormed p) :
    p.ReadFrom (kindAttrs kind) (kindCode kind) payload := by
  unfold judgeKind at h
  dsimp only at h
  split at h
  · next hk =>
    cases h
    exact hk ▸ ⟨rfl, rfl, rfl, fun hle => decide_eq_true hle⟩
  · next hk => exact hk ▸ readFrom_of_parsePixel (ofParsed_eq_wellFormed h)
  · next hk => exact hk ▸ readFrom_of_parseShow (ofParsed_eq_wellFormed h)
  · next hk => exact hk ▸ readFrom_of_parseControl (ofParsed_eq_wellFormed h)
  · next hk => exact hk ▸ readFrom_of_parseCollect (ofParsed_eq_wellFormed h)
  · next hk => exact hk ▸ readFrom_of_parseEnum (ofParsed_eq_wellFormed h)
  · next hk => exact hk ▸ readFrom_of_parseLinkNotice (ofParsed_eq_wellFormed h)
  · cases h

/-- R154: a kind is unknown where it is none of the seven. -/
theorem judgeKind_eq_unknown_iff (kind : Word) (payload : List Word) :
    judgeKind kind payload = .unknown ↔ kindCode kind ∉ [0x00, 0x11, 0x12, 0x21, 0x22, 0x31, 0x32] := by
  unfold judgeKind
  dsimp only
  split
  case h_8 => simp_all
  all_goals
    next hk => simp [hk, ofParsed_ne_unknown]

/-! ### Commands read from a code and parameters (R106) -/

/-- The command has that code and those parameters. -/
structure Command.ReadFrom (c : Command) (code : Nat) (params : List Word) : Prop where
  code_eq : c.code.toNat = code
  params_eq : c.params = params
  wf : c.wf = true

/-- A command that carries no parameters, of its code. -/
theorem readFrom_of_parseBare {c c' : Command} {params : List Word} (hc : c.params = []) (hw : c.wf = true)
    (h : parseBare c params = some c') : c'.ReadFrom c.code.toNat params := by
  unfold parseBare at h
  split at h <;> cases h
  exact ⟨rfl, hc, hw⟩

/-- R106: a command is read only from its own code and parameters. -/
theorem readFrom_of_parse {code : Word} {params : List Word} {c : Command} (h : Command.parse code params = some c) :
    c.ReadFrom code.toNat params := by
  unfold Command.parse at h
  generalize code.toNat = n at h ⊢
  split at h
  case h_1 | h_5 | h_7 | h_8 | h_9 | h_10 | h_11 | h_14 | h_15 => exact readFrom_of_parseBare rfl rfl h
  case h_2 | h_4 | h_6 | h_12 | h_13 =>
    simp only [parseSetIdentity, parseReadTable, parseCommit, parseSetState, parseSetNotices] at h
    split at h <;> cases h
    exact ⟨rfl, rfl, rfl⟩
  case h_3 =>
    unfold parseWriteTable at h
    split at h
    · split at h
      · next hlen => cases h; exact ⟨rfl, rfl, by simpa [Command.wf] using hlen⟩
      · cases h
    · cases h
  case h_16 => cases h

/-- Settles O4: a run that is not damaged is its kind, payload, length and check word, and what is read from the payload
gives the payload back. -/
theorem judgementIsExact : Obligations.JudgementIsExact := by
  refine ⟨fun raw p h => ?_, fun raw => ⟨fun h => ?_, ?_⟩, fun code params c h => ?_⟩
  · rcases judge_eq_damaged_or raw with hd | ⟨kind, payload, hlen, hraw, hj⟩
    · rw [hd] at h; cases h
    · obtain ⟨hattrs, hkind, hpayload, hwf⟩ := readFrom_of_judgeKind (hj.symm.trans h)
      exact ⟨by rw [Packet.words, hattrs, hkind, hpayload, kindWord_kindAttrs, hraw], hwf hlen⟩
  · rcases judge_eq_damaged_or raw with hd | ⟨kind, payload, hlen, hraw, hj⟩
    · rw [hd] at h; cases h
    · have hcode := (judgeKind_eq_unknown_iff kind payload).mp (hj.symm.trans h)
      exact ⟨kind, payload, hlen, hraw, by simpa [kindCode_eq_iff] using hcode⟩
  · rintro ⟨kind, payload, hlen, rfl, hcode⟩
    rw [judge_withCheck kind payload hlen, judgeKind_eq_unknown_iff]
    simpa [kindCode_eq_iff] using hcode
  · obtain ⟨hcode, hparams, hwf⟩ := readFrom_of_parse h
    exact ⟨BitVec.eq_of_toNat_eq hcode, hparams, hwf⟩

end Sys2Proof
end

section
/-! The output (R149), the refusal map (R113), the Address Matcher's tests and ENUM (R136 to R139), what a CONTROL
packet meets before its command's owner (R103 to R108, R112), and IDENTIFY, RESET NODE and SET IDENTITY (R118, R141, R142). -/

namespace Sys2Proof.Machine

-- One theorem after another, as in the tests: side by side each would hold a thread and its stack.
set_option Elab.async false

/-! ### The output (R118, R149) -/

/-- R149, R152: the check word of the node's own FILL. -/
theorem fillWords_eq : fillWords = [0x0000#16, 0x0000#16, 0x84C0#16] := by decide +kernel

/-- Settles O10. -/
theorem outputCarriesTheSendQueue : Obligations.OutputCarriesTheSendQueue := by
  intro s
  refine ⟨fun e es hq => ?_, fun hp hq => ?_⟩
  · refine congrArg Host.Outcome.next (?_ : s.forwardHead = _)
    rw [State.forwardHead, hq]
    rfl
  · have hfill : s.sendFill = s.emit (.packet fillWords) := by rw [State.sendFill, hp, hq]; rfl
    rw [← fillWords_eq]
    exact congrArg Host.Outcome.next hfill

/-! ### The refusal map (R113) -/

theorem getD_modify (map : List Word) (f : Word → Word) (i j : Nat) (hj : j < map.length) :
    (map.modify i f).getD j 0 = if i = j then f (map.getD j 0) else map.getD j 0 := by
  rw [List.getD_eq_getElem?_getD, List.getElem?_modify, List.getD_eq_getElem?_getD, List.getElem?_eq_getElem hj]
  split <;> rfl

/-- R159: a word's flags with flag `b` set. -/
theorem getLsbD_setFlag (w : Word) {b k : Nat} (hk : k < 16) :
    (w ||| (1#16 <<< b)).getLsbD k = (decide (k = b) || w.getLsbD k) := by
  have hflag : (1#16 <<< b).getLsbD k = decide (k = b) := by
    rw [BitVec.getLsbD_shiftLeft, BitVec.getLsbD_one, decide_eq_true hk, Bool.eq_iff_iff]
    simp only [Bool.true_and, Bool.and_eq_true, decide_eq_true_eq, Bool.not_eq_true', decide_eq_false_iff_not]
    omega
  rw [BitVec.getLsbD_or, hflag, Bool.or_comm]

/-- Settles O38: a position is its word and its flag in that word. -/
theorem refusalMapMarksOnePosition : Obligations.RefusalMapMarksOnePosition := by
  intro map p q hlen
  refine ⟨by rw [markPosition, List.length_modify, hlen], ?_⟩
  have hword : q.val / 16 < map.length := by omega
  rw [markPosition, getD_modify _ _ _ _ hword]
  by_cases hsame : p.val / 16 = q.val / 16
  · have hflag : q.val % 16 = p.val % 16 ↔ q = p := by rw [Fin.ext_iff]; omega
    rw [if_pos hsame, getLsbD_setFlag _ (by omega)]
    simp only [hflag]
  · have hne : q ≠ p := fun e => hsame (by rw [e])
    rw [if_neg hsame, decide_eq_false hne, Bool.false_or]

/-! ### Addresses (R136 to R139) -/

/-- R97, R137: a position taken, the unicast series ended where its value changes. -/
theorem takePosition_eq (s : State) (q : Word) :
    s.takePosition q =
      { s with
        address := { s.address with position := positionFrom q }
        commands :=
          if positionFrom q = s.address.position then s.commands
          else { s.commands with unicastLast := none, replayCache := none } } := by
  unfold State.takePosition
  dsimp only
  split <;> rfl

/-- Settles O16. -/
theorem enumTakesPosition : Obligations.EnumTakesPosition := by
  intro attrs q s hr position
  have htaken := takePosition_eq { s with ring := { s.ring with arriving := [] } } q
  rw [exec_wellFormed (p := .enum attrs q) rfl hr rfl, State.takeWellFormed, htaken]
  rfl

/-- Settles O17: the address tests of Tables 8-3 and 8-4 fail. -/
theorem packetsForOthersPassUnchanged : Obligations.PacketsForOthersPassUnchanged := by
  intro s hr
  refine ⟨fun i h code params hw hlen hi hnot => ?_, fun attrs mode value capacity records hlen hnot => ?_⟩
  · have hwf : (Packet.control h code params).wf = true := by simpa [Packet.wf, hw] using hlen
    have hother : ¬ s.address.concerned h.mode h.value = true := (concerned_iff s.address h).not.mpr hnot
    rw [exec_wellFormed hi hr hwf, State.takeWellFormed, State.takeControl, if_neg hother]
    rfl
  · have hwf : (Packet.collect attrs mode value capacity records).wf = true := by
      simpa [Packet.wf, Config.maxPayload] using hlen
    have hother : ¬ s.address.inScope mode value = true := (inScope_iff s.address mode value).not.mpr hnot
    rw [exec_wellFormed (p := .collect attrs mode value capacity records) rfl hr hwf, State.takeWellFormed,
      State.takeCollect, if_neg hother]
    dsimp only
    rw [List.append_nil]
    rfl

/-! ### Conflict, sequence and duplicates (R103 to R105, R112) -/

section Stopped

variable {i : Instr} {h : Header} {code : Word} {params : List Word} {s t : State} (hr : Receiving s) (hw : h.wf = true)
  (hp : params.length ≤ 1000) (ha : AddressedTo s.address h)
  (hi : i.words = some (Packet.control h code params).words)
include hr hw hp ha hi

/-- R110: a unicast packet that the Command Unit gives a disposition, without touching the Ring Interface. -/
theorem exec_unicast {d : Disposition} (hm : h.mode = 1#16 ∨ h.mode = 2#16) (hring : t.ring = s.ring)
    (hu : ∀ r : Ring, State.unicast { s with ring := r } h code params = ({ t with ring := r }, d)) :
    exec i s = .next (refusal t h code params (dispositionCode d)) := by
  have hnot : ¬ (h.mode = 3#16 ∨ h.mode = 4#16) := by rcases hm with e | e <;> rw [e] <;> decide
  have hphase : t.ring.resetPhase = .idle := hring ▸ hr.2.2.1
  rw [exec_control hr hw hp ha hi]
  simp only [State.commandUnit, (isMulticast_false_iff _).mpr hnot, hu, refusal, refusedHeader, if_neg hnot,
    State.sentOn, State.enqueue, ← hring, hphase]
  rfl

/-- R112, R113: a multicast duplicate, counted as accepted. -/
theorem exec_multicast_duplicate (hm : h.mode = 3#16 ∨ h.mode = 4#16)
    (hdup : isMulticastDuplicate s.commands.multicastLast (resync h.attrs) (sequenceOf h.sequence) = true) :
    exec i s =
      .next (s.sentOn (Packet.control { h with accepts := saturatingInc h.accepts } code params).words) := by
  have hphase : s.ring.resetPhase = .idle := hr.2.2.1
  rw [exec_control hr hw hp ha hi]
  simp only [State.commandUnit, (isMulticast_iff _).mpr hm, State.multicast, hdup, if_true, countMulticast,
    State.sentOn, State.enqueue, hphase]
  rfl

end Stopped

/-- R103. -/
theorem unicast_conflict {h : Header} (hd : h.disposition ≠ 0#16) (s : State) (code : Word) (params : List Word) :
    s.unicast h code params = (s, .conflict) := if_pos hd

/-- R104: the sequence stage of a packet without RESYNC. -/
theorem sequenceStage_some (last sequence : BitVec 8) :
    sequenceStage (some last) false sequence =
      if sequence = last then .duplicate else if sequence = last + 1#8 then .passes else .refused := rfl

/-- R100, R104. -/
theorem unicast_refused {h : Header} {s : State} (hd : h.disposition = 0#16)
    (hs : sequenceStage s.commands.unicastLast (resync h.attrs) (sequenceOf h.sequence) = .refused) (code : Word)
    (params : List Word) : s.unicast h code params = (s.countSequenceRefusal, .sequence) :=
  (if_neg (not_not_intro hd)).trans (by rw [hs])

/-- R105. -/
theorem unicast_duplicate {h : Header} {s : State} (hd : h.disposition = 0#16)
    (hs : sequenceStage s.commands.unicastLast (resync h.attrs) (sequenceOf h.sequence) = .duplicate) (code : Word)
    (params : List Word) : s.unicast h code params = s.replay :=
  (if_neg (not_not_intro hd)).trans (by rw [hs])

theorem replay_of_empty {s : State} (hc : s.commands.replayCache = none) : s.replay = (s, .duplicate) := by
  rw [State.replay, hc]

theorem replay_of_room {s : State} {r : Record} (hc : s.commands.replayCache = some r)
    (hroom : s.queue.entries.length < 12) :
    s.replay = ({ s with queue := s.queue.append (.record { r with replay := true }) }, .duplicate) := by
  rw [State.replay, hc]
  exact if_pos (decide_eq_true hroom)

theorem replay_of_full {s : State} {r : Record} (hc : s.commands.replayCache = some r)
    (hfull : 12 ≤ s.queue.entries.length) : s.replay = (s, .busy) := by
  rw [State.replay, hc]
  exact if_neg (by simpa [hasFreeEntry] using hfull)

/-- Settles O37: each case is what its stage gives, whatever the packet's command. -/
theorem sequencingStopsPackets : Obligations.SequencingStopsPackets := by
  intro i h code params s hr hw ha hp hi sequence
  refine ⟨fun hm hd => ?_, fun last hm hd hresync hlast => ?_, fun hm hresync hlast => ?_⟩
  · exact exec_unicast hr hw hp ha hi (d := .conflict) hm rfl fun _ => unicast_conflict hd _ _ _
  · have hstage : sequenceStage s.commands.unicastLast (resync h.attrs) (sequenceOf h.sequence) =
        if sequence = last then .duplicate else if sequence = last + 1#8 then .passes else .refused := by
      rw [hlast, resync, hresync]
      exact sequenceStage_some last sequence
    refine ⟨fun hne hnext => ?_, fun heq hc => ?_, fun r heq hc => ⟨fun hroom => ?_, fun hfull => ?_⟩⟩
    · rw [if_neg hne, if_neg hnext] at hstage
      rw [← saturatingInc_eq]
      exact exec_unicast hr hw hp ha hi (t := s.countSequenceRefusal) (d := .sequence) hm rfl
        fun r => unicast_refused (s := { s with ring := r }) hd hstage _ _
    all_goals
      rw [if_pos heq] at hstage
      have hdup (r : Ring) := unicast_duplicate (s := { s with ring := r }) hd hstage code params
    · exact exec_unicast hr hw hp ha hi (d := .duplicate) hm rfl
        fun r => (hdup r).trans (replay_of_empty hc)
    · exact exec_unicast hr hw hp ha hi (t := { s with queue := s.queue.append (.record { r with replay := true }) })
        (d := .duplicate) hm rfl fun r => (hdup r).trans (replay_of_room hc hroom)
    · exact exec_unicast hr hw hp ha hi (d := .busy) hm rfl fun r => (hdup r).trans (replay_of_full hc hfull)
  · refine exec_multicast_duplicate hr hw hp ha hi hm ?_
    rw [isMulticastDuplicate, hlast, resync, hresync]
    exact beq_self_eq_true _

/-! ### Refusals before the owner's checks (R106 to R108) -/

/-- Table 6-4: what LOADING does not take. -/
theorem availableIn_loading {c : Command} (h1 : c ≠ .identify) (h2 : c ≠ .readStatus) (h3 : c ≠ .resetNode) :
    availableIn c .loading = false := by
  cases c with
  | identify => exact absurd rfl h1
  | readStatus => exact absurd rfl h2
  | resetNode => exact absurd rfl h3
  | _ => rfl

/-- Table 6-4: what every node state takes. -/
theorem availableIn_always {c : Command} (h : c = .identify ∨ c = .readStatus ∨ c = .resetNode) (n : NodeState) :
    availableIn c n = true := by
  rcases h with rfl | rfl | rfl <;> cases n <;> rfl

/-- R108: a report with no owner's check that finds no entry free. -/
theorem exec_report_busy {c : Command} {s : State} {h : Header} (ho : Offered s h)
    (hc : c = .identify ∨ c = .readStatus ∨ c = .readTemperature) (ha : availableIn c s.node = true)
    (hq : 12 ≤ s.queue.entries.length) : exec (c.row h) s = .next (refusal s h c.code c.params 3#16) := by
  have hreport : c.wf = true ∧ s.ownerCheck h.mode c = none ∧ needsEntry c = true ∧
      ∀ kind frame, c ≠ .commit kind frame := by
    rcases hc with rfl | rfl | rfl <;> exact ⟨rfl, rfl, rfl, by simp⟩
  obtain ⟨hw, hcheck, hneeds, hnc⟩ := hreport
  have hv := lateStages_noEntry (c.parse_code hw) ha hcheck hneeds hq
  simpa [afterRefusal_eq_self s hw hnc, dispositionCode] using exec_refused ho (c.params_length hw) (row_words h c) hv

/-- Settles O36. -/
theorem stateAndRoomRefusals : Obligations.StateAndRoomRefusals := by
  intro h c s ho hw
  refine ⟨fun hn h1 h2 h3 => ?_, fun hfull hc => ?_⟩
  · exact exec_offered_unavailable c ho hw (by rw [hn]; exact availableIn_loading h1 h2 h3)
  · rcases hc with rfl | rfl | ⟨rfl, hn⟩
    · exact exec_report_busy ho (.inl rfl) (availableIn_always (.inl rfl) _) hfull
    · exact exec_report_busy ho (.inr (.inl rfl)) (availableIn_always (.inr (.inl rfl)) _) hfull
    · exact exec_report_busy ho (.inr (.inr rfl)) (availableIn_of_ne_loading hn (by simp)) hfull

/-- Table 6-1: the code of each command, and the least and greatest number of its parameters. -/
def commandRows : List (Nat × Nat × Nat) :=
  [(0x01, 0, 0), (0x02, 2, 2), (0x10, 3, 258), (0x11, 4, 4), (0x12, 0, 0), (0x13, 2, 2), (0x14, 0, 0), (0x20, 0, 0),
    (0x21, 0, 0), (0x30, 0, 0), (0x31, 0, 0), (0x40, 5, 5), (0x41, 1, 1), (0x42, 0, 0), (0x4F, 0, 0)]

/-- Each command stands in Table 6-1. -/
theorem exists_mem_commandRows {c : Command} (hw : c.wf = true) :
    ∃ row ∈ commandRows, c.code.toNat = row.1 ∧ row.2.1 ≤ c.params.length ∧ c.params.length ≤ row.2.2 := by
  cases c with
  | writeTable table start values =>
    have hlen : 1 ≤ values.length ∧ values.length ≤ 256 := by simpa [Command.wf] using hw
    refine ⟨(0x10, 3, 258), by simp [commandRows], rfl, ?_, ?_⟩ <;> simp only [Command.params, List.length_cons] <;>
      omega
  | _ => simp [commandRows, Command.code, Command.params]

/-- R106: what is in no row of Table 6-1 is no command. -/
theorem parse_eq_none_of_rows {code : Word} {params : List Word}
    (h : ∀ row ∈ commandRows, ¬ (code.toNat = row.1 ∧ row.2.1 ≤ params.length ∧ params.length ≤ row.2.2)) :
    Command.parse code params = none := by
  cases hparse : Command.parse code params with
  | none => rfl
  | some c =>
    obtain ⟨hcode, rfl, hw⟩ := readFrom_of_parse hparse
    obtain ⟨row, hmem, hrow⟩ := exists_mem_commandRows hw
    exact absurd (hcode ▸ hrow) (h row hmem)

/-- Settles O35: what is no command is refused before availability, and leaves the node as it was. -/
theorem unknownCommandsAreRefused : Obligations.UnknownCommandsAreRefused := by
  intro h code params s ho hlen hrows
  have hparse : Command.parse code params = none := parse_eq_none_of_rows hrows
  have hv : s.lateStages h.mode code params = .refused .unknown := by rw [State.lateStages, hparse]
  have hsame : s.afterRefusal code params = s := by rw [State.afterRefusal, hparse]
  simpa [hsame, dispositionCode] using exec_refused (i := .unknownCommand h code params) ho hlen rfl hv

/-! ### IDENTIFY and RESET NODE (R118, R142) -/

/-- Settles O18. -/
theorem identifyReports : Obligations.IdentifyReports := by
  intro h s ho hroom
  exact exec_offered_accepted .identify ho rfl (availableIn_always (.inl rfl) _) rfl fun _ => hroom

/-- Settles O34: no entry is needed, and the effect is the mark that a reset is awaited. -/
theorem resetNodeIsAnsweredFirst : Obligations.ResetNodeIsAnsweredFirst := by
  intro h s ho
  exact exec_offered_accepted .resetNode ho rfl (availableIn_always (.inr (.inr rfl)) _) rfl (fun e => (nomatch e))

/-! ### SET IDENTITY (R141) -/

theorem logicalIdOf_of_lt {w : Word} {l : Fin 1024} (h : w.toNat = l.val) : logicalIdOf w = some (some l) := by
  have hlt : w.toNat < 1024 := h ▸ l.isLt
  rw [logicalIdOf, dif_pos hlt]
  exact congrArg (some ∘ some) (Fin.ext h)

theorem logicalIdOf_eq_none {w : Word} (h : 1024 ≤ w.toNat) (hw : w ≠ 65535#16) : logicalIdOf w = none := by
  rw [logicalIdOf, dif_neg (Nat.not_lt.mpr h), if_neg hw]

/-- R141: SET IDENTITY by POSITION with a logical id, or NONE. -/
theorem exec_setIdentity {h : Header} {logicalId groups : Word} {s : State} (ho : Offered s h) (hn : s.node ≠ .loading)
    (hm : h.mode = 1#16) {l : Option (Fin 1024)} (hl : logicalIdOf logicalId = some l) :
    exec (.setIdentity h logicalId groups) s = .next
      (acceptance { s with address := { s.address with logicalId := l, groups := groups } } h
        (.setIdentity logicalId groups) none) := by
  have hcheck : s.ownerCheck h.mode (.setIdentity logicalId groups) = none := by
    simp [State.ownerCheck, checkSetIdentity, hm, hl]
  have heffect : s.setIdentity logicalId groups =
      { s with address := { s.address with logicalId := l, groups := groups } } := by rw [State.setIdentity, hl]
  rw [← heffect]
  exact exec_offered_accepted (.setIdentity logicalId groups) ho rfl (availableIn_of_ne_loading hn (by simp)) hcheck
    (fun e => (nomatch e))

/-- R141: the owner's checks. -/
theorem checkSetIdentity_eq_invalid {mode logicalId : Word}
    (h : mode ≠ 1#16 ∨ 1024 ≤ logicalId.toNat ∧ logicalId ≠ 65535#16) :
    checkSetIdentity mode logicalId = some .invalid := by
  unfold checkSetIdentity
  split
  · rfl
  · next hm =>
    obtain ⟨hge, hne⟩ := h.resolve_left hm
    rw [logicalIdOf_eq_none hge hne]
    rfl

/-- Settles O19. -/
theorem setIdentityNames : Obligations.SetIdentityNames := by
  intro h logicalId groups s ho
  refine ⟨fun hn => ?_, fun hn hm l hl => ?_, fun hn hm hl => ?_, fun hn hbad => ?_⟩
  · exact exec_offered_unavailable (.setIdentity logicalId groups) ho rfl
      (by rw [hn]; exact availableIn_loading (by simp) (by simp) (by simp))
  · exact exec_setIdentity ho hn hm (logicalIdOf_of_lt hl)
  · exact exec_setIdentity ho hn hm (by rw [hl]; rfl)
  · exact exec_offered_refused (.setIdentity logicalId groups) (d := .invalid) ho rfl hn (by simp)
      (checkSetIdentity_eq_invalid hbad)

end Sys2Proof.Machine
end

section
/-! The STATUS record (R168 to R170, Table 9-17): each group of its words, spelled out. -/

namespace Sys2Proof.Machine

-- One theorem after another, as in the tests: side by side each would hold a thread and its stack.
set_option Elab.async false

/-! ### Groups of words (Tables 9-17 to 9-19) -/

theorem failureWords_eq (failure : Option FailurePoint) :
    failureWords failure =
      [(failure.map fun p => tableCode p.table).getD 65535#16,
        (failure.map fun p => BitVec.ofNat 16 p.index).getD 65535#16] := by
  cases failure <;> rfl

theorem flaggedWords_eq (w : Option Word) : flaggedWords w = [if w.isSome then 1 else 0, w.getD 0] := by
  cases w <;> rfl

theorem lastSequenceWord_eq (last : Option (BitVec 8)) :
    lastSequenceWord last = (last.map (BitVec.setWidth 16)).getD 65535#16 := by
  cases last <;> rfl

theorem shownTag_eq (s : State) :
    s.shownTag =
      if s.frames.buffer0.role = .shown then s.frames.buffer0.tag
      else if s.frames.buffer1.role = .shown then s.frames.buffer1.tag
      else if s.frames.buffer2.role = .shown then s.frames.buffer2.tag
      else none := by
  simp only [State.shownTag, List.find?_cons, beq_eq_decide, List.find?_nil]
  by_cases h0 : s.frames.buffer0.role = .shown
  · simp [h0]
  · by_cases h1 : s.frames.buffer1.role = .shown
    · simp [h0, h1]
    · by_cases h2 : s.frames.buffer2.role = .shown <;> simp [h0, h1, h2]

/-- R169: the words beyond the backlog's length are absent. -/
theorem backlogWords_eq (backlog : List Held) :
    backlogWords backlog =
      (List.range 9).map fun j =>
        (backlog[j]?.map fun held => BitVec.ofNat 16 (noticeCode held.kind)).getD 65535#16 := by
  refine List.ext_getElem (by simp [backlogWords]) fun j h1 h2 => ?_
  simp only [backlogWords, List.getElem_take, List.getElem_append, List.length_map, List.getElem_map,
    List.getElem_replicate, List.getElem_range]
  split
  · next hj => rw [List.getElem?_eq_getElem hj]; rfl
  · next hj => rw [List.getElem?_eq_none (Nat.not_lt.mp hj)]; rfl

/-- R109, R111: an acceptance sets a sequence and refuses nothing. -/
theorem withSequence_sequenceRefusals (c : CommandUnit) (h : Header) :
    (c.withSequence h).sequenceRefusals = c.sequenceRefusals := by
  unfold CommandUnit.withSequence
  split <;> rfl

/-! ### READ STATUS -/

/-- Settles O29: group by group, the record is Table 9-17. -/
theorem readStatusReports : Obligations.ReadStatusReports := by
  intro h s ho hroom sequences target unit image optional shownTag body
  have htarget : targetWords (atAcceptance s h).banks.commit = [target.1, target.2] := by
    dsimp only [target, atAcceptance]
    rcases s.banks.commit with _ | (_ | f) | (_ | f) <;> rfl
  have hunit : unitWords (atAcceptance s h).store.unit = [unit.1, unit.2] := by
    dsimp only [unit, atAcceptance]
    rcases s.store.unit with _ | _ | ⟨_ | _ | _, t, g⟩ | source <;> rfl
  have himage (r : ImageRecord) : imageRecordWords r = image r := by
    cases r with
    | valid g => exact congrArg (2#16 :: ·) (generationWords_eq g)
    | _ => rfl
  have hbody : openingWord h 0x30 :: (atAcceptance s h).statusWords = body := by
    have hshown : (atAcceptance s h).shownTag = shownTag := shownTag_eq _
    have hrefusals : (atAcceptance s h).commands.sequenceRefusals = s.commands.sequenceRefusals :=
      withSequence_sequenceRefusals _ _
    simp only [State.statusWords, hshown, hrefusals, htarget, hunit, himage, backlogWords_eq, bandWord_eq,
      failureWords_eq, lastSequenceWord_eq, flaggedWords_eq, body, List.append_assoc, List.cons_append, List.nil_append]
    rfl
  have hlength : body.length = 49 := by
    have hthree (r : ImageRecord) : (image r).length = 3 := by cases r <;> rfl
    simp [body, hthree, optional]
  refine ⟨hlength, ?_⟩
  rw [← hbody]
  exact exec_offered_accepted .readStatus ho rfl (availableIn_always (.inr (.inl rfl)) _) rfl fun _ => hroom

end Sys2Proof.Machine
end

section
/-! RESET NODE takes effect (R118, R163): what waited for it, taken in its turn. A packet that waited is handled alike
whatever the link and the words of a packet partly received, so it is handled as its row is while LOCKED. -/

namespace Sys2Proof.Machine

-- One theorem after another, as in the tests: side by side each would hold a thread and its stack.
set_option Elab.async false

/-! ### The ring input plays no part in the handling of a packet -/

/-- The state with that link state and those words of a packet partly received. -/
def State.withInput (s : State) (link : Link) (arriving : List Word) : State :=
  { s with ring := { s.ring with link := link, arriving := arriving } }

namespace WithInput

variable (s : State) (l : Link) (a : List Word)

theorem applyPending : (s.withInput l a).applyPending = s.applyPending.withInput l a := by
  unfold State.applyPending State.withInput
  dsimp only
  split <;> rfl

theorem applyCommit : (s.withInput l a).applyCommit = s.applyCommit.withInput l a := by
  rw [applyCommit_eq, applyCommit_eq]
  rfl

theorem commitAtShow (k : Word) : (s.withInput l a).commitAtShow k = (s.commitAtShow k).withInput l a := by
  unfold State.commitAtShow
  rw [applyCommit]
  unfold State.withInput
  dsimp only
  split
  · rfl
  · split
    · split <;> rfl
    · rfl
  · split <;> rfl

theorem skipPending : (s.withInput l a).skipPending = s.skipPending.withInput l a := by
  unfold State.skipPending State.withInput
  dsimp only
  split <;> rfl

theorem showPicture (k : Word) :
    State.framesAtShow.showPicture k (s.withInput l a) = (State.framesAtShow.showPicture k s).withInput l a := by
  unfold State.framesAtShow.showPicture State.promote
  rw [skipPending]
  unfold State.withInput
  dsimp only
  split <;> rfl

theorem framesAtShow (k : Word) : (s.withInput l a).framesAtShow k = (s.framesAtShow k).withInput l a := by
  have hnode : (s.withInput l a).node = s.node := rfl
  have hpicture := showPicture { s with frames := { s.frames with lastShow := some k } } l a k
  unfold State.framesAtShow
  rw [hnode]
  split
  · rfl
  · rfl
  · exact hpicture
  · exact hpicture

theorem takeShow (k : Word) : (s.withInput l a).takeShow k = (s.takeShow k).withInput l a := by
  have hnode : (s.withInput l a).node = s.node := rfl
  unfold State.takeShow
  rw [hnode, commitAtShow, applyPending, framesAtShow]
  split <;> rfl

theorem takePixelPacket (frame line column count : Word) (samples : List Word) :
    (s.withInput l a).takePixelPacket frame line column count samples =
      (s.takePixelPacket frame line column count samples).withInput l a := by
  unfold State.takePixelPacket State.comparePixels State.withInput
  dsimp only
  split
  · split
    · rfl
    · split
      · rfl
      · split
        · rfl
        · split <;> rfl
  · rfl

theorem takeCollect (mode value capacity : Word) (used : Nat) :
    (s.withInput l a).takeCollect mode value capacity used =
      ((s.takeCollect mode value capacity used).1.withInput l a, (s.takeCollect mode value capacity used).2) := by
  unfold State.takeCollect State.withInput
  dsimp only
  split <;> rfl

theorem takePosition (q : Word) : (s.withInput l a).takePosition q = (s.takePosition q).withInput l a := by
  rw [takePosition_eq, takePosition_eq]
  rfl

theorem refusedCommit (kind : Word) : (s.withInput l a).refusedCommit kind = (s.refusedCommit kind).withInput l a := by
  unfold State.refusedCommit State.stagedLocked State.withInput
  dsimp only
  split
  · rfl
  · split
    · rfl
    · split
      · rfl
      · split <;> rfl

theorem afterRefusal (code : Word) (params : List Word) :
    (s.withInput l a).afterRefusal code params = (s.afterRefusal code params).withInput l a := by
  have hnode : (s.withInput l a).node = s.node := rfl
  unfold State.afterRefusal
  simp only [refusedCommit, hnode]
  split
  · split <;> rfl
  · rfl

theorem perform (opening : Word) (c : Command) :
    (s.withInput l a).perform opening c = (s.perform opening c).withInput l a := by
  cases c with
  | setIdentity logicalId groups =>
    dsimp only [State.perform]
    unfold State.setIdentity State.withInput
    split <;> rfl
  | writeTable table start values =>
    dsimp only [State.perform]
    unfold State.writeTable State.withInput
    split <;> rfl
  | commit kind frame =>
    have hcommit := applyCommit { s with banks := { s.banks with lastFailure := none } } l a
    dsimp only [State.perform]
    unfold State.acceptCommit
    dsimp only
    split
    · rfl
    · rfl
    · exact hcommit
    · rfl
  | setState target pattern red green blue =>
    dsimp only [State.perform]
    unfold State.setState State.changePresentation State.withInput
    dsimp only
    split
    · rfl
    · split
      · rfl
      · split <;> rfl
  | setNotices mask =>
    dsimp only [State.perform]
    unfold State.setNotices State.withInput
    split <;> rfl
  | _ => rfl

theorem replyTo (opening : Word) (c : Command) : (s.withInput l a).replyTo opening c = s.replyTo opening c := by
  cases c <;> rfl

theorem carryOut (opening : Word) (c : Command) :
    (s.withInput l a).carryOut opening c = (s.carryOut opening c).withInput l a := by
  unfold State.carryOut
  rw [replyTo, perform]
  cases s.replyTo opening c <;> rfl

theorem replay : (s.withInput l a).replay = (s.replay.1.withInput l a, s.replay.2) := by
  unfold State.replay State.withInput
  dsimp only
  split
  · rfl
  · split <;> rfl

theorem acceptUnicast (sequence : BitVec 8) (code : Word) (c : Command) :
    (s.withInput l a).acceptUnicast sequence code c = (s.acceptUnicast sequence code c).withInput l a := by
  have hcarry := carryOut { s with commands := { s.commands with unicastLast := some sequence } } l a
    (sequenceAndCode sequence code) c
  have hreply := replyTo { s with commands := { s.commands with unicastLast := some sequence } } l a
    (sequenceAndCode sequence code) c
  exact congrArg₂ (fun (u : State) r => { u with commands := { u.commands with replayCache := r } }) hcarry hreply

theorem acceptMulticast (sequence : BitVec 8) (code : Word) (c : Command) :
    (s.withInput l a).acceptMulticast sequence code c = (s.acceptMulticast sequence code c).withInput l a :=
  carryOut { s with commands := { s.commands with multicastLast := some sequence } } l a _ c

theorem unicast (h : Header) (code : Word) (params : List Word) :
    (s.withInput l a).unicast h code params =
      ((s.unicast h code params).1.withInput l a, (s.unicast h code params).2) := by
  have hlate : (s.withInput l a).lateStages h.mode code params = s.lateStages h.mode code params := rfl
  have hcommands : (s.withInput l a).commands = s.commands := rfl
  unfold State.unicast
  rw [hlate, hcommands, replay, afterRefusal]
  simp only [acceptUnicast]
  split
  · rfl
  · split
    · rfl
    · rfl
    · split <;> rfl

theorem multicast (h : Header) (code : Word) (params : List Word) :
    (s.withInput l a).multicast h code params =
      ((s.multicast h code params).1.withInput l a, (s.multicast h code params).2) := by
  have hlate : (s.withInput l a).lateStages h.mode code params = s.lateStages h.mode code params := rfl
  have hcommands : (s.withInput l a).commands = s.commands := rfl
  unfold State.multicast
  rw [hlate, hcommands, afterRefusal]
  simp only [acceptMulticast]
  split
  · rfl
  · split <;> rfl

theorem commandUnit (h : Header) (code : Word) (params : List Word) :
    (s.withInput l a).commandUnit h code params =
      ((s.commandUnit h code params).1.withInput l a, (s.commandUnit h code params).2) := by
  unfold State.commandUnit
  rw [unicast, multicast]
  split <;> rfl

theorem takeControl (h : Header) (code : Word) (params : List Word) :
    (s.withInput l a).takeControl h code params = (s.takeControl h code params).withInput l a := by
  have haddress : (s.withInput l a).address = s.address := rfl
  unfold State.takeControl
  rw [commandUnit, haddress]
  split <;> rfl

theorem takeWellFormed (raw : List Word) (p : Packet) :
    (s.withInput l a).takeWellFormed raw p = (s.takeWellFormed raw p).withInput l a := by
  cases p with
  | fill attrs payload => rfl
  | pixel attrs frame line column count samples =>
    exact congrArg (State.forward · raw) (takePixelPacket s l a frame line column count samples)
  | showFrame attrs frame => exact congrArg (State.forward · raw) (takeShow s l a frame)
  | control h code params => exact takeControl s l a h code params
  | collect attrs mode value capacity records =>
    unfold State.takeWellFormed
    dsimp only
    rw [takeCollect]
    rfl
  | enum attrs next => exact congrArg (State.forward · _) (takePosition s l a next)
  | linkNotice attrs origin cause number => rfl

theorem handle (raw : List Word) : (s.withInput l a).handle raw = (s.handle raw).withInput l a := by
  have hqueue : (s.withInput l a).ring.sendQueue = s.ring.sendQueue := rfl
  unfold State.handle State.overrun
  rw [hqueue]
  simp only [takeWellFormed]
  split
  · split <;> rfl
  · split <;> rfl

theorem takeWhole (raw : List Word) : (s.withInput l a).takeWhole raw = (s.takeWhole raw).withInput l a := by
  have hphase : (s.withInput l a).ring.resetPhase = s.ring.resetPhase := rfl
  unfold State.takeWhole
  rw [hphase, handle]
  split <;> rfl

end WithInput

/-! ### RESET NODE -/

/-- R163: the node as it takes up what waited. -/
def State.restarted (s : State) : State := { s.nodeReset with ring := { s.nodeReset.ring with held := [] } }

theorem resetNodeTakesEffect_due {s : State} (h : s.ring.resetPhase = .due) :
    s.resetNodeTakesEffect = s.ring.held.foldl State.takeWaiting s.restarted := by
  rw [State.resetNodeTakesEffect, h]
  rfl

/-- R163: the last of what waited is taken in the state that all before it left. -/
theorem resetNodeTakesEffect_append {s : State} (h : s.ring.resetPhase = .due) {before : List Waiting} {w : Waiting}
    (hheld : s.ring.held = before ++ [w]) :
    s.resetNodeTakesEffect =
      (State.resetNodeTakesEffect { s with ring := { s.ring with held := before } }).takeWaiting w := by
  rw [resetNodeTakesEffect_due h, hheld, List.foldl_append]
  exact congrArg (State.takeWaiting · w)
    (resetNodeTakesEffect_due (s := { s with ring := { s.ring with held := before } }) h).symm

/-- What waited for a RESET NODE leaves the words of a packet partly received alone. -/
theorem takeWaiting_arriving (s : State) (w : Waiting) : (s.takeWaiting w).ring.arriving = s.ring.arriving := by
  cases w with
  | packet raw =>
    have hsame := WithInput.takeWhole s s.ring.link s.ring.arriving raw
    exact congrArg (·.ring.arriving) hsame
  | notice words =>
    rw [State.takeWaiting, State.placeOwn_ring, placeOwn_eq, Ring.withNotice]
    split <;> rfl

theorem resetNodeTakesEffect_arriving {s : State} (h : s.ring.resetPhase = .due) :
    s.resetNodeTakesEffect.ring.arriving = s.ring.arriving := by
  rw [resetNodeTakesEffect_due h]
  exact List.foldlRecOn (motive := fun u : State => u.ring.arriving = s.ring.arriving) _ _ rfl
    fun u hu w _ => (takeWaiting_arriving u w).trans hu

/-- A packet's row received while LOCKED, and the same packet taken from what waited whatever the link. -/
theorem takeWhole_of_exec_locked {s t : State} {i : Instr} {ws : List Word} (hp : s.resetPin = false)
    (hi : i.words = some ws) (hlen : ws.length ≤ 1027)
    (hexec : exec i { s with ring := { s.ring with link := .locked } } = .next t) :
    s.takeWhole ws = t.withInput s.ring.link s.ring.arriving := by
  have htaken : State.receive { s with ring := { s.ring with link := .locked } } ws =
      (s.withInput .locked []).takeWhole ws :=
    (receive_locked (s := { s with ring := { s.ring with link := .locked } }) hp rfl ws).trans (takeRun_whole hlen _)
  rw [exec_words hi, htaken] at hexec
  cases hexec
  exact WithInput.takeWhole (s.withInput .locked []) s.ring.link s.ring.arriving ws

/-- Settles O7: the reset values are those of Table 10-3, and the last of what waited is taken as its row is. -/
theorem resetNodeTakesEffect : Obligations.ResetNodeTakesEffect := by
  intro s hdue t
  refine ⟨fun hnil => ?_, fun before ws u hheld hu => ?_, fun before i ws u v hheld hi hlen hp hu hv => ?_⟩
  · refine congrArg Host.Outcome.next ((resetNodeTakesEffect_due hdue).trans ?_)
    rw [hnil]
    rfl
  all_goals
    cases hu
    refine congrArg Host.Outcome.next ((resetNodeTakesEffect_append hdue hheld).trans ?_)
  · exact congrArg (fun r => { State.resetNodeTakesEffect _ with ring := r }) (placeOwn_eq _ ws)
  · obtain ⟨pin, ⟨link, -, -, -⟩, -⟩ :=
      RingMoves.resetNodeTakesEffect { s with ring := { s.ring with held := before } }
    have harriving := resetNodeTakesEffect_arriving (s := { s with ring := { s.ring with held := before } }) hdue
    have htaken := takeWhole_of_exec_locked (pin.trans hp) hi hlen hv
    rw [link, harriving] at htaken
    exact htaken

end Sys2Proof.Machine
end

section
/-! SET NOTICES (R129), an occurrence of a notice kind (R124, R125), and what a COLLECT drains (R128 to R132). -/

namespace Sys2Proof.Machine

-- One theorem after another, as in the tests: side by side each would hold a thread and its stack.
set_option Elab.async false

/-! ### SET NOTICES (R129) -/

theorem maskOf_of_lt {mask : Word} (h : mask.toNat < 512) : maskOf mask = some (mask.setWidth 9) := if_pos h

/-- Table 9-16: the nine kinds stand below bit 9, so a kind is enabled by the word's own flag. -/
theorem isEnabled_setWidth (mask : Word) (k : NoticeKind) :
    isEnabled (mask.setWidth 9) k = mask.getLsbD (noticeCode k) := by
  have hcode : noticeCode k < 9 := by cases k <;> decide
  rw [isEnabled, BitVec.getLsbD_setWidth, decide_eq_true hcode, Bool.true_and]

theorem setNotices_of_lt {mask : Word} (h : mask.toNat < 512) (s : State) :
    s.setNotices mask =
      { s with queue :=
        { s.queue with
          mask := mask.setWidth 9
          backlog := s.queue.backlog.filter fun held => mask.getLsbD (noticeCode held.kind) } } := by
  simp only [State.setNotices, maskOf_of_lt h, isEnabled_setWidth]

theorem checkSetNotices_of_lt {mask : Word} (h : mask.toNat < 512) : checkSetNotices mask = none := by
  rw [checkSetNotices, maskOf_of_lt h]
  rfl

theorem checkSetNotices_of_le {mask : Word} (h : 512 ≤ mask.toNat) : checkSetNotices mask = some .invalid := by
  rw [checkSetNotices, maskOf, if_neg (Nat.not_lt.mpr h)]
  rfl

/-- Settles O32: the availability of Table 6-4, the owner's one check, and the masked queue as its effect. -/
theorem setNoticesMasks : Obligations.SetNoticesMasks := by
  intro h mask s ho
  refine ⟨fun hn => ?_, fun hn hbad => ?_, fun hn hmask => ?_⟩
  · exact exec_offered_unavailable (.setNotices mask) ho rfl
      (by rw [hn]; exact availableIn_loading (by simp) (by simp) (by simp))
  · exact exec_offered_refused (.setNotices mask) (d := .invalid) ho rfl hn (by simp) (checkSetNotices_of_le hbad)
  · rw [← setNotices_of_lt hmask]
    exact exec_offered_accepted (.setNotices mask) ho rfl (availableIn_of_ne_loading hn (by simp))
      (checkSetNotices_of_lt hmask) (fun e => (nomatch e))

/-! ### An occurrence of a notice kind (R124, R125) -/

section Raise

variable {q : ReplyQueue} {k : NoticeKind} (id : Identity) (detail : Option Word)

theorem any_isNoticeOf_iff : q.entries.any (Entry.isNoticeOf k) = true ↔ k ∈ q.entries.filterMap Entry.noticeKind := by
  simp [Entry.isNoticeOf]

theorem any_kind_iff : q.backlog.any (fun held => held.kind == k) = true ↔ k ∈ q.backlog.map Held.kind := by
  simp

theorem raise_of_disabled (hk : isEnabled q.mask k = false) : q.raise id k detail = q :=
  if_pos (by rw [hk]; rfl)

/-- R125, case 1. -/
theorem raise_of_mem_entries (hk : isEnabled q.mask k = true) (h : k ∈ q.entries.filterMap Entry.noticeKind) :
    q.raise id k detail = { q with entries := q.entries.map (countInto k detail) } := by
  rw [ReplyQueue.raise, hk, any_isNoticeOf_iff.mpr h]
  rfl

/-- R125, case 2. -/
theorem raise_of_mem_backlog (hk : isEnabled q.mask k = true) (hentries : k ∉ q.entries.filterMap Entry.noticeKind)
    (h : k ∈ q.backlog.map Held.kind) :
    q.raise id k detail = { q with backlog := q.backlog.map (countIntoHeld k detail) } := by
  rw [ReplyQueue.raise, hk, Bool.eq_false_iff.mpr (any_isNoticeOf_iff.not.mpr hentries), any_kind_iff.mpr h]
  rfl

/-- R125, cases 3 and 4. -/
theorem raise_of_not_mem (hk : isEnabled q.mask k = true) (h : k ∉ noticeKinds q) :
    q.raise id k detail =
      if hasNoticeRoom q.entries then { q with entries := q.entries ++ [.record (id.notice k 1#16 detail)] }
      else { q with backlog := q.backlog ++ [⟨k, 1#16, detail⟩] } := by
  obtain ⟨hentries, hbacklog⟩ := not_or.mp (List.mem_append.not.mp h)
  rw [ReplyQueue.raise, hk, Bool.eq_false_iff.mpr (any_isNoticeOf_iff.not.mpr hentries),
    Bool.eq_false_iff.mpr (any_kind_iff.not.mpr hbacklog)]
  rfl

end Raise

/-- R125: an entry of another kind, or of none, is not counted into. -/
theorem countInto_of_ne {k : NoticeKind} {e : Entry} (h : e.noticeKind ≠ some k) (detail : Option Word) :
    countInto k detail e = e := by
  unfold countInto
  split
  · exact if_neg fun hk => h (congrArg some hk)
  · rfl
  · rfl

theorem countIntoHeld_of_ne {k : NoticeKind} {held : Held} (h : held.kind ≠ k) (detail : Option Word) :
    countIntoHeld k detail held = held := if_neg h

/-- Where no key stands twice, a map that changes only what has the key `k` changes one element, in its place. -/
theorem map_append_cons_of_nodup {α β : Type} {key : α → Option β} {g : α → α} {k : β} {before after : List α} {x : α}
    (hg : ∀ y, key y ≠ some k → g y = y) (hx : key x = some k)
    (hnodup : ((before ++ x :: after).filterMap key).Nodup) :
    (before ++ x :: after).map g = before ++ g x :: after := by
  rw [List.filterMap_append, List.filterMap_cons_some hx, List.nodup_middle, List.nodup_cons, List.mem_append,
    not_or] at hnodup
  obtain ⟨⟨hbefore, hafter⟩, -⟩ := hnodup
  have hsame (l : List α) (hl : k ∉ l.filterMap key) : l.map g = l :=
    (List.map_congr_left fun y hy => hg y fun e => hl (List.mem_filterMap.mpr ⟨y, hy, e⟩)).trans l.map_id
  rw [List.map_append, List.map_cons, hsame before hbefore, hsame after hafter]

/-- Settles O39: no kind stands twice (R119, R127), so an occurrence is counted into one place, whichever it is. -/
theorem noticeOccurrences : Obligations.NoticeOccurrences := by
  intro q id k detail hq
  obtain ⟨-, -, hnodup, -⟩ := hq
  obtain ⟨hentries, hbacklog, hdisjoint⟩ := List.nodup_append'.mp hnodup
  refine ⟨raise_of_disabled id detail, fun hk => ⟨?_, ?_, fun hnew => ⟨fun hlen hcount => ?_, fun hfull => ?_⟩⟩⟩
  · intro before after position logicalId replay count earlier he
    have hmem : k ∈ q.entries.filterMap Entry.noticeKind :=
      List.mem_filterMap.mpr ⟨_, he ▸ List.mem_append_cons_self, rfl⟩
    rw [he] at hentries
    rw [raise_of_mem_entries id detail hk hmem, he,
      map_append_cons_of_nodup (fun _ h => countInto_of_ne h detail) rfl hentries, ← saturatingInc_eq]
    exact congrArg (fun e => { q with entries := before ++ e :: after }) (if_pos rfl)
  · intro before after count earlier hb
    have hmem : k ∈ q.backlog.map Held.kind := List.mem_map.mpr ⟨_, hb ▸ List.mem_append_cons_self, rfl⟩
    rw [hb, ← List.filterMap_eq_map] at hbacklog
    rw [raise_of_mem_backlog id detail hk (fun h => hdisjoint h hmem) hmem, hb,
      map_append_cons_of_nodup (fun _ h => countIntoHeld_of_ne (fun e => h (congrArg some e)) detail) rfl hbacklog,
      ← saturatingInc_eq]
    exact congrArg (fun held => { q with backlog := before ++ held :: after }) (if_pos rfl)
  · rw [raise_of_not_mem id detail hk hnew, if_pos ((hasNoticeRoom_iff _).mpr ⟨hlen, hcount⟩)]
    rfl
  · have hroom : ¬ hasNoticeRoom q.entries = true := by rw [hasNoticeRoom_iff]; omega
    rw [raise_of_not_mem id detail hk hnew, if_neg hroom]

/-! ### A COLLECT (R128 to R132) -/

/-- R131: a drain ends where the head of the list is no record that fits the room. -/
theorem drainWith_stops {q : ReplyQueue} {room : Nat}
    (h : ∀ r rest, q.entries = .record r :: rest → ¬ r.words.length ≤ room) (id : Identity) (fuel : Nat) :
    drainWith id fuel room q = (q, []) := by
  cases fuel with
  | zero => rfl
  | succ fuel =>
    rcases drainWith_cases id fuel room q with ⟨r, rest, he, hfits, -⟩ | ⟨hd, -⟩
    · exact absurd hfits (h r rest he)
    · exact hd

/-- R128: the queue that a record drained leaves, with what the backlog then admits. -/
def ReplyQueue.afterRecord (q : ReplyQueue) (id : Identity) (rest : List Entry) : ReplyQueue :=
  let admitted := min q.backlog.length (min (12 - rest.length) (4 - noticeCount rest))
  { q with
    entries := rest ++ (q.backlog.take admitted).map fun held => .record (id.notice held.kind held.count held.detail)
    backlog := q.backlog.drop admitted }

theorem afterRecord_of_backlog_nil {q : ReplyQueue} (h : q.backlog = []) (id : Identity) (rest : List Entry) :
    q.afterRecord id rest = { q with entries := rest } := by
  simp [ReplyQueue.afterRecord, h]

/-- R131: a record that fits is drained, and the drain goes on in the room it leaves. Of the list and the backlog
together it takes one away, so the fuel is the drain's own again. -/
theorem drain_record {q : ReplyQueue} {r : Record} {rest : List Entry} {room : Nat}
    (he : q.entries = .record r :: rest) (hfits : r.words.length ≤ room) (id : Identity) :
    q.drain id room =
      (((q.afterRecord id rest).drain id (room - r.words.length)).1,
        r.words ++ ((q.afterRecord id rest).drain id (room - r.words.length)).2) := by
  have hfuel : q.entries.length + q.backlog.length =
      (q.afterRecord id rest).entries.length + (q.afterRecord id rest).backlog.length + 1 := by
    simp only [he, ReplyQueue.afterRecord, List.length_cons, List.length_append, List.length_map, List.length_take,
      List.length_drop]
    omega
  rw [ReplyQueue.drain, hfuel]
  rcases drainWith_cases id _ room q with ⟨r', rest', he', -, hd⟩ | ⟨-, hnot⟩
  · cases he.symm.trans he'
    rw [hd, admitHeld_eq]
    rfl
  · exact absurd hfits (hnot r rest he)

/-- R131: with an empty backlog, the run of records that fits. -/
theorem drain_run (id : Identity) (drained : List Record) {q : ReplyQueue} {rest : List Entry} {room : Nat}
    (hnil : q.backlog = []) (he : q.entries = drained.map Entry.record ++ rest)
    (hfits : (drained.flatMap Record.words).length ≤ room)
    (hstop : ∀ r after, rest = .record r :: after →
      room < (drained.flatMap Record.words).length + r.words.length) :
    q.drain id room = ({ q with entries := rest }, drained.flatMap Record.words) := by
  induction drained generalizing q room with
  | nil =>
    subst he
    exact drainWith_stops (fun r after e => by simpa using hstop r after e) id _
  | cons r drained ih =>
    rw [List.flatMap_cons, List.length_append] at hfits hstop
    have hnext := ih (q := { q with entries := drained.map Entry.record ++ rest }) (room := room - r.words.length) hnil
      rfl (by omega) fun r' after e => by have := hstop r' after e; omega
    rw [drain_record (rest := drained.map Entry.record ++ rest) he (by omega), afterRecord_of_backlog_nil hnil, hnext,
      List.flatMap_cons]

/-- R130: a COLLECT whose scope matches. -/
theorem exec_collect {s : State} {mode value : Word} {records : List Word} (hr : Receiving s)
    (hlen : records.length ≤ 1020) (hscope : InScope s.address mode value) (attrs : BitVec 8) (capacity : Word) :
    exec (.collect attrs mode value capacity records) s =
      let drained := s.queue.drain s.address (min capacity.toNat 1000 - records.length)
      .next (State.sentOn { s with queue := drained.1 }
        (Packet.collect attrs mode value capacity (records ++ drained.2)).words) := by
  have hwf : (Packet.collect attrs mode value capacity records).wf = true := by
    simpa [Packet.wf, Config.maxPayload] using hlen
  rw [exec_wellFormed (p := .collect attrs mode value capacity records) rfl hr hwf, State.takeWellFormed,
    State.takeCollect, if_pos ((inScope_iff s.address mode value).mpr hscope)]
  rfl

/-- Settles O40: the packet is its drain, and a drain is a run, one record and the drain after it, or nothing. -/
theorem collectDrains : Obligations.CollectDrains := by
  intro attrs mode value capacity records s hr hlen hscope
  refine ⟨fun drained rest hnil he hfits hrest => ?_, fun r rest he hfits => ?_, fun hstop => ?_⟩
  · have hstop (r : Record) (after : List Entry) (e : rest = .record r :: after) :
        min capacity.toNat 1000 - records.length < (drained.flatMap Record.words).length + r.words.length := by
      subst e
      simpa using hrest
    rw [exec_collect hr hlen hscope, drain_run s.address drained hnil he hfits hstop]
  · have hheader : 4 ≤ r.words.length := by simp [Record.words]
    have hlen' : (records ++ r.words).length ≤ 1020 := by rw [List.length_append]; omega
    have hroom : min capacity.toNat 1000 - (records ++ r.words).length =
        min capacity.toNat 1000 - records.length - r.words.length := by rw [List.length_append]; omega
    have hnext := exec_collect (s := { s with queue := s.queue.afterRecord s.address rest }) hr hlen' hscope attrs
      capacity
    rw [hroom] at hnext
    rw [exec_collect hr hlen hscope, drain_record he hfits]
    dsimp only
    rw [← List.append_assoc]
    exact hnext.symm
  · have hnone (r : Record) (rest : List Entry) (e : s.queue.entries = .record r :: rest) :
        ¬ r.words.length ≤ min capacity.toNat 1000 - records.length := by
      simpa [e] using hstop
    rw [exec_collect hr hlen hscope, ReplyQueue.drain, drainWith_stops hnone]
    dsimp only
    rw [List.append_nil]

end Sys2Proof.Machine
end

section
/-! Rows and their words, both ways (R150, R152 to R154, R159): a well-formed packet row is read back from its words,
and runs of words written out from the layout tables are the rows they stand for. -/

namespace Sys2Proof

-- One theorem after another, as in the tests: side by side each would hold a thread and its stack.
set_option Elab.async false

/-- Settles O1. -/
theorem stepRunsFrontCommand : Obligations.StepRunsFrontCommand := fun _ _ _ => rfl

/-! ### Packets and commands read back from their words -/

/-- R150, R159: a well-formed packet's words are its row. -/
theorem rowOfWords_words {p : Packet} (hp : p.wf = true) : rowOfWords p.words = p.row := by
  rw [rowOfWords, judge_words p hp]

/-- R106: the row of a packet that carries a command is the command's. -/
theorem row_commandPacket (h : Header) {c : Command} (hc : c.wf = true) : (commandPacket h c).row = c.row h := by
  rw [commandPacket, Packet.row, c.parse_code hc]

theorem rowOfWords_commandPacket {h : Header} {c : Command} (hh : h.wf = true) (hc : c.wf = true) :
    rowOfWords (commandPacket h c).words = c.row h :=
  (rowOfWords_words (commandPacket_wf h c hh hc)).trans (row_commandPacket h hc)

theorem rowOfWords_unknownCommand {h : Header} {code : Word} {params : List Word} (hh : h.wf = true)
    (hlen : params.length ≤ Config.maxParams) (hnone : Command.parse code params = none) :
    rowOfWords (Packet.control h code params).words = .unknownCommand h code params := by
  have hwf : (Packet.control h code params).wf = true := Bool.and_eq_true_iff.mpr ⟨hh, decide_eq_true hlen⟩
  rw [rowOfWords_words hwf, Packet.row, hnone]

/-- Settles O3: by the rows. -/
theorem packetRowsRoundTrip : Obligations.PacketRowsRoundTrip := by
  intro i ws hw hi hno
  cases i <;> cases hi
  case fill | pixel | showFrame | collect | enum | linkNotice => exact rowOfWords_words hw
  case damagedPacket =>
    obtain ⟨-, hj⟩ := Bool.and_eq_true_iff.mp hw
    rw [rowOfWords, beq_iff_eq.mp hj]
  case unknownPacket => rw [rowOfWords, beq_iff_eq.mp hw]
  case overrunPacket => exact absurd rfl (hno ws)
  case writeTable =>
    obtain ⟨hh, hc⟩ := Bool.and_eq_true_iff.mp hw
    exact rowOfWords_commandPacket hh hc
  case unknownCommand =>
    obtain ⟨hh, hnone⟩ := Bool.and_eq_true_iff.mp hw
    obtain ⟨hh, hlen⟩ := Bool.and_eq_true_iff.mp hh
    exact rowOfWords_unknownCommand hh (of_decide_eq_true hlen) (Option.isNone_iff_eq_none.mp hnone)
  all_goals exact rowOfWords_commandPacket hw rfl

/-! ### Runs written out (Tables 9-5 to 9-13) -/

/-- A run of words spelled out that is a packet's words. -/
theorem rowOfWords_of_spelled {p : Packet} {raw : List Word} (hp : p.wf = true) (hraw : raw = p.words) :
    rowOfWords raw = p.row :=
  hraw ▸ rowOfWords_words hp

/-- Settles O2: each well-formed run is its packet's words, check word included; the other two are judged. -/
theorem spelledPacketsAreTheirRows : Obligations.SpelledPacketsAreTheirRows := by
  refine ⟨?fill, ?showFrame, ?enum, ?linkNotice, ?pixel, ?collect, ?readStatus, ?commit, ?unknown, ?damaged⟩
  case fill => exact rowOfWords_of_spelled (p := .fill 0 []) rfl (by decide +kernel)
  case showFrame => exact rowOfWords_of_spelled (p := .showFrame 0 0x1234) rfl (by decide +kernel)
  case enum => exact rowOfWords_of_spelled (p := .enum 0 5) rfl (by decide +kernel)
  case linkNotice => exact rowOfWords_of_spelled (p := .linkNotice 0 6 1 2) rfl (by decide +kernel)
  case pixel =>
    exact rowOfWords_of_spelled (p := .pixel 0 700 40 92 1 [600, 530, 1000]) (by decide +kernel) (by decide +kernel)
  case collect => exact rowOfWords_of_spelled (p := .collect 0 4 0 60 []) rfl (by decide +kernel)
  case readStatus =>
    exact rowOfWords_of_spelled (p := commandPacket ⟨0, 1, 5, 20, 0, 0, 0, []⟩ .readStatus) rfl (by decide +kernel)
  case commit =>
    exact rowOfWords_of_spelled (p := commandPacket ⟨1, 4, 0, 7, 0, 0, 0, [0, 0, 0, 0]⟩ (.commit 2 900)) rfl
      (by decide +kernel)
  case unknown =>
    have hj : judge [0x0055, 0x0000, 0x31FE] = .unknown := by decide +kernel
    rw [rowOfWords, hj]
  case damaged =>
    have hj : judge [0x0012, 0x0001, 0x1234, 0x6A3E] = .damaged := by decide +kernel
    rw [rowOfWords, hj]

end Sys2Proof
end

section
/-! What a well-formed packet leaves in the send queue (R113, R131, R149, R156), and the bound of what is forwarded
(R150, R151). -/

namespace Sys2Proof.Machine

-- One theorem after another, as in the tests: side by side each would hold a thread and its stack.
set_option Elab.async false

/-! ### A packet as it leaves the node (R156) -/

/-- R156: a well-formed packet of the same kind, with the upper byte of the kind word it came with. -/
structure RewrittenAs (p p' : Packet) : Prop where
  wf : p'.wf = true
  kind : p'.kind = p.kind
  attrs : p'.attrs = p.attrs

/-- What a header's layout rests on (Table 9-8): the mode and the length of the refusal map; and the upper byte of its
kind word. -/
structure SameLayout (h h' : Header) : Prop where
  attrs : h'.attrs = h.attrs
  mode : h'.mode = h.mode
  mapLength : h'.refusalMap.length = h.refusalMap.length

/-- R113: a flag is set within a word of the refusal map. -/
theorem SameLayout.countMulticast (position : Option (Fin 64)) (h : Header) (counted : Bool) :
    SameLayout h (countMulticast position h counted) := by
  unfold Machine.countMulticast
  split
  · exact ⟨rfl, rfl, rfl⟩
  · refine ⟨rfl, rfl, ?_⟩
    dsimp only
    split
    · rw [markPosition, List.length_modify]
    · rfl

/-- R109, R110, R113: the Command Unit writes the disposition, or the counts and the refusal map. -/
theorem SameLayout.commandUnit (s : State) (h : Header) (code : Word) (params : List Word) :
    SameLayout h (s.commandUnit h code params).2 := by
  unfold State.commandUnit
  split
  · exact SameLayout.countMulticast _ _ _
  · exact ⟨rfl, rfl, rfl⟩

theorem RewrittenAs.control {h h' : Header} {code : Word} {params : List Word}
    (hw : (Packet.control h code params).wf = true) (hl : SameLayout h h') :
    RewrittenAs (.control h code params) (.control h' code params) := by
  obtain ⟨attrs, mode, mapLength⟩ := hl
  refine ⟨?_, rfl, attrs⟩
  rw [← hw, Packet.wf, Packet.wf, Header.wf, Header.wf, mode, mapLength]

/-- R131: a drain appends no more words than its room. -/
theorem length_drainWith_le (id : Identity) (fuel room : Nat) (q : ReplyQueue) :
    (drainWith id fuel room q).2.length ≤ room := by
  induction fuel generalizing room q with
  | zero => exact Nat.zero_le _
  | succ fuel ih =>
    rcases drainWith_cases id fuel room q with ⟨r, rest, -, hfits, hd⟩ | ⟨hd, -⟩
    · rw [hd]
      have hnext := ih (room - r.words.length)
        { q with entries := (admitHeld id q.backlog rest).1, backlog := (admitHeld id q.backlog rest).2 }
      rw [List.length_append]
      omega
    · rw [hd]
      exact Nat.zero_le _

theorem length_takeCollect_le (s : State) (mode value capacity : Word) (used : Nat) :
    (s.takeCollect mode value capacity used).2.length ≤ collectRoom capacity used := by
  unfold State.takeCollect
  split
  · exact length_drainWith_le _ _ _ _
  · exact Nat.zero_le _

/-- R130, R131: what is drained into a COLLECT leaves it at most 1000 record words, where it came with fewer. -/
theorem RewrittenAs.collect {attrs : BitVec 8} {mode value capacity : Word} {records : List Word}
    (hw : (Packet.collect attrs mode value capacity records).wf = true) (s : State) :
    RewrittenAs (.collect attrs mode value capacity records)
      (.collect attrs mode value capacity (records ++ (s.takeCollect mode value capacity records.length).2)) := by
  refine ⟨?_, rfl, rfl⟩
  have hdrained := length_takeCollect_le s mode value capacity records.length
  simp only [Packet.wf, Config.maxPayload, collectRoom, Config.maxCapacity, decide_eq_true_eq,
    List.length_append] at hw hdrained ⊢
  omega

/-! ### The packet a handling adds to the send queue (R149) -/

/-- The packet stands last in the send queue, and what waits for a RESET NODE is left alone. -/
structure SendsOn (s t : State) (e : SendEntry) : Prop where
  held : t.ring.held = s.ring.held
  sendQueue : t.ring.sendQueue = s.ring.sendQueue ++ [e]

/-- An operation that leaves the ring alone, and the packet sent on. -/
theorem SendsOn.forward {s t : State} (hr : t.ring = s.ring) (words : List Word) :
    SendsOn s (t.forward words) ⟨words, false, false⟩ := by
  constructor <;> rw [State.forward_ring, hr]

/-- R101, R118: a CONTROL packet is sent on, as it came or with the header the Command Unit gives it. -/
theorem takeControl_sends {h : Header} {code : Word} {params : List Word}
    (hw : (Packet.control h code params).wf = true) (s : State) :
    ∃ p' resets, RewrittenAs (.control h code params) p' ∧
      SendsOn s (s.takeControl h code params) ⟨p'.words, false, resets⟩ := by
  unfold State.takeControl
  split
  · obtain ⟨-, -, hqueue, hheld, -⟩ := RingAtCommand.commandUnit s h code params
    exact ⟨_, _, RewrittenAs.control hw (SameLayout.commandUnit s h code params), hheld,
      congrArg (· ++ [_]) hqueue⟩
  · exact ⟨_, _, ⟨hw, rfl, rfl⟩, SendsOn.forward rfl _⟩

/-- R149, R156: every well-formed packet but FILL is sent on as one packet, well-formed and of its own kind. -/
theorem takeWellFormed_sends {p : Packet} (hw : p.wf = true) (hk : p.kind ≠ 0) (s : State) :
    ∃ p' resets, RewrittenAs p p' ∧ SendsOn s (s.takeWellFormed p.words p) ⟨p'.words, false, resets⟩ := by
  have same : RewrittenAs p p := ⟨hw, rfl, rfl⟩
  cases p with
  | fill attrs payload => exact absurd rfl hk
  | pixel attrs frame line column count samples => exact ⟨_, _, same, SendsOn.forward (by simp) _⟩
  | showFrame attrs frame => exact ⟨_, _, same, SendsOn.forward (by simp) _⟩
  | control h code params => exact takeControl_sends hw s
  | collect attrs mode value capacity records =>
    exact ⟨_, _, RewrittenAs.collect hw s, SendsOn.forward (by simp) _⟩
  | enum attrs next => exact ⟨.enum attrs (nextPosition next), _, ⟨rfl, rfl, rfl⟩, SendsOn.forward (by simp) _⟩
  | linkNotice attrs origin cause number => exact ⟨_, _, same, SendsOn.forward rfl _⟩

/-- R149: a FILL is absorbed. -/
theorem takeWellFormed_fill {p : Packet} (hk : p.kind = 0) (s : State) (raw : List Word) :
    s.takeWellFormed raw p = s := by
  cases p with
  | fill attrs payload => rfl
  | _ => cases hk

/-- Settles O14: the packet is handled as its words, and sent on as one packet unless it is FILL. -/
theorem rewrittenPacketsStayWellFormed : Obligations.RewrittenPacketsStayWellFormed := by
  intro i ws p s t hr hi hj hexec
  obtain ⟨rfl, hw⟩ := judgementIsExact.1 ws p hj
  rw [exec_wellFormed hi hr hw] at hexec
  cases hexec
  by_cases hk : p.kind = 0
  · exact .inl ⟨hk, by rw [takeWellFormed_fill hk]⟩
  · obtain ⟨p', resets, ⟨hwf, hkind, hattrs⟩, -, hqueue⟩ :=
      takeWellFormed_sends hw hk { s with ring := { s.ring with arriving := [] } }
    exact .inr ⟨_, p', hk, hqueue, rfl, judge_words p' hwf, hkind, hattrs⟩

/-! ### The bound of the send queue (R150, R151) -/

theorem forwardedWords_append (q : List SendEntry) (e : SendEntry) :
    forwardedWords (q ++ [e]) = forwardedWords q + if e.own then 0 else e.words.length := by
  induction q with
  | nil => simp [forwardedWords]
  | cons x q ih => rw [List.cons_append, forwardedWords, ih, forwardedWords, Nat.add_assoc]

/-- R151: the handling of a packet adds nothing to the send queue, or, where there is room, one packet: the words that
came, or others of at most 1027. -/
theorem handle_cases (s : State) (raw : List Word) :
    ((s.handle raw).ring.held = s.ring.held ∧ (s.handle raw).ring.sendQueue = s.ring.sendQueue) ∨
      forwardedWords s.ring.sendQueue ≤ 3069 ∧
        ∃ words resets, (words = raw ∨ words.length ≤ 1027) ∧ SendsOn s (s.handle raw) ⟨words, false, resets⟩ := by
  unfold State.handle
  split
  · refine .inl ?_
    unfold State.overrun
    split <;> exact ⟨rfl, rfl⟩
  · next hroom =>
    have hroom : forwardedWords s.ring.sendQueue ≤ 3069 := Nat.not_lt.mp hroom
    split
    · exact .inr ⟨hroom, raw, false, .inl rfl, rfl, rfl⟩
    · exact .inr ⟨hroom, raw, false, .inl rfl, rfl, rfl⟩
    · next p hj =>
      obtain ⟨rfl, hw⟩ := judgementIsExact.1 raw p hj
      by_cases hk : p.kind = 0
      · exact .inl (by rw [takeWellFormed_fill hk]; exact ⟨rfl, rfl⟩)
      · obtain ⟨p', resets, ⟨hwf, -, -⟩, hsends⟩ := takeWellFormed_sends hw hk s
        exact .inr ⟨hroom, p'.words, resets, .inr (words_length_le hwf), hsends⟩

theorem handle_held (s : State) (raw : List Word) : (s.handle raw).ring.held = s.ring.held := by
  rcases handle_cases s raw with ⟨hheld, -⟩ | ⟨-, -, -, -, hheld, -⟩ <;> exact hheld

namespace SendQueueOk

variable {r : Ring} {s : State}

/-- The bound speaks of the two queues alone. -/
theorem of_queues_eq (h : SendQueueOk r) {r' : Ring} (hq : r'.sendQueue = r.sendQueue) (hh : r'.held = r.held) :
    SendQueueOk r' := by
  unfold SendQueueOk
  rw [hq, hh]
  exact h

theorem of_ring_eq {r' : Ring} (h : SendQueueOk r) (hr : r' = r) : SendQueueOk r' := hr ▸ h

theorem hold (h : SendQueueOk r) {w : Waiting} (hw : w.fits = true) : SendQueueOk { r with held := r.held ++ [w] } :=
  ⟨h.1, List.forall_mem_append.mpr ⟨h.2, List.forall_mem_singleton.mpr hw⟩⟩

/-- R151: a LINK NOTICE of the node's own does not count. -/
theorem withNotice (h : SendQueueOk r) (words : List Word) : SendQueueOk (r.withNotice words) := by
  unfold Ring.withNotice
  split
  · exact ⟨by rw [forwardedWords_append]; exact h.1, h.2⟩
  · exact h.hold rfl

/-- R146: the ring without the notice placed last. -/
theorem of_withNotice {words : List Word} (h : SendQueueOk (r.withNotice words)) : SendQueueOk r := by
  unfold Ring.withNotice at h
  split at h
  · exact ⟨by simpa [forwardedWords_append] using h.1, h.2⟩
  · exact ⟨h.1, (List.forall_mem_append.mp h.2).1⟩

theorem placeOwn (h : SendQueueOk s.ring) (words : List Word) : SendQueueOk (s.placeOwn words).ring := by
  rw [State.placeOwn_ring, placeOwn_eq]
  exact h.withNotice words

/-- R151: nothing is forwarded where the queue holds more than 3069 words. -/
theorem handle (h : SendQueueOk s.ring) {raw : List Word} (hlen : raw.length ≤ 1027) :
    SendQueueOk (s.handle raw).ring := by
  rcases handle_cases s raw with ⟨hheld, hqueue⟩ | ⟨hroom, words, resets, hwords, hheld, hqueue⟩
  · exact h.of_queues_eq hqueue hheld
  · have hwords : words.length ≤ 1027 := hwords.elim (fun e => e ▸ hlen) id
    refine ⟨?_, hheld ▸ h.2⟩
    rw [hqueue, forwardedWords_append]
    change _ + words.length ≤ 4096
    omega

theorem takeWhole (h : SendQueueOk s.ring) {raw : List Word} (hlen : raw.length ≤ 1027) :
    SendQueueOk (s.takeWhole raw).ring := by
  unfold State.takeWhole
  split
  · exact h.handle hlen
  · exact h.hold (decide_eq_true hlen)

theorem takeWaiting (h : SendQueueOk s.ring) :
    ∀ w : Waiting, w.fits = true → SendQueueOk (s.takeWaiting w).ring
  | .packet _, hw => h.takeWhole (of_decide_eq_true hw)
  | .notice words, _ => h.placeOwn words

/-- R163: the queue is kept, and what waited is taken in its turn. -/
theorem resetNodeTakesEffect (h : SendQueueOk s.ring) : SendQueueOk s.resetNodeTakesEffect.ring := by
  by_cases hdue : s.ring.resetPhase = .due
  · have hrestarted : SendQueueOk s.restarted.ring := ⟨h.1, List.forall_mem_nil _⟩
    rw [resetNodeTakesEffect_due hdue]
    exact List.foldlRecOn (motive := fun u : State => SendQueueOk u.ring) _ _ hrestarted
      fun u hu w hw => takeWaiting hu w (h.2 w hw)
  · have hsame : s.resetNodeTakesEffect = s := by
      unfold State.resetNodeTakesEffect
      split
      · rfl
      · rfl
      · next hdue' => exact absurd hdue' hdue
    rw [hsame]
    exact h

theorem sendAll (h : SendQueueOk s.ring) : SendQueueOk s.sendAll.ring := ⟨Nat.zero_le _, h.2⟩

theorem clearTheWay (h : SendQueueOk s.ring) (turns : Nat) : SendQueueOk (s.clearTheWay turns).ring := by
  induction turns generalizing s with
  | zero => exact h.sendAll
  | succ turns ih =>
    unfold State.clearTheWay
    dsimp only
    split
    · exact ih h.sendAll.resetNodeTakesEffect
    · exact h.sendAll

/-- R150: a longer run than the holding buffer holds takes no room in the send queue. -/
theorem takeRun (h : SendQueueOk s.ring) (raw : List Word) : SendQueueOk (s.takeRun raw).ring := by
  have hempty : SendQueueOk ({ s with ring := { s.ring with arriving := [] } } : State).ring := h
  by_cases hlen : raw.length ≤ 1027
  · rw [takeRun_whole hlen]
    exact hempty.takeWhole hlen
  · rw [takeRun_long (Nat.not_le.mp hlen)]
    exact (hempty.clearTheWay _).of_queues_eq rfl rfl

/-- R146: the notice taken back and placed again counts in neither place. -/
theorem takeStanding (h : SendQueueOk s.ring) (raw : List Word) : SendQueueOk (s.takeStanding raw).ring := by
  unfold State.takeStanding
  split
  · exact h
  · next r notice htake =>
    have hbefore : SendQueueOk r := of_withNotice ((takeBack_eq_some _ _ _).mp htake ▸ h)
    have hafter := takeRun (s := { s with ring := { r with link := .locked, standing := false } }) hbefore raw
    generalize State.takeRun _ raw = t at hafter
    exact placeOwn (s := { t with ring := { t.ring with link := .unlocked } }) hafter notice

theorem receive (h : SendQueueOk s.ring) (raw : List Word) : SendQueueOk (s.receive raw).ring := by
  unfold State.receive
  split
  · exact h
  · split
    · split
      · exact h.takeStanding raw
      · exact h
    · exact h.takeRun raw

/-! ### Events -/

theorem sendLost (h : SendQueueOk s.ring) (r : LossRecord) : SendQueueOk (s.sendLost r).ring :=
  placeOwn (s := { s with ring := { s.ring with loss := some _, noticeTimer := some _ } }) h _

theorem lossOfLock (h : SendQueueOk s.ring) : SendQueueOk s.lossOfLock.ring := by
  unfold State.lossOfLock
  split
  · exact h
  · split
    · exact h
    · unfold State.loseLock
      refine sendLost ?_ _
      exact h

theorem linkNoticeTimerExpiry (h : SendQueueOk s.ring) : SendQueueOk s.linkNoticeTimerExpiry.ring := by
  unfold State.linkNoticeTimerExpiry
  split
  · refine sendLost ?_ _
    exact h
  all_goals exact h

theorem restoreLock (h : SendQueueOk s.ring) (r : LossRecord) : SendQueueOk (s.restoreLock r).ring :=
  placeOwn (s := { s with ring := { s.ring with link := .locked, standing := false, noticeTimer := none } }) h _

theorem gainLock (h : SendQueueOk s.ring) : SendQueueOk s.gainLock.ring := by
  unfold State.gainLock
  split
  · exact h
  · split
    · exact h
    · exact h
    · exact h.restoreLock _

/-- R149: what leaves takes no room any more. -/
theorem forwardHead (h : SendQueueOk s.ring) : SendQueueOk s.forwardHead.ring := by
  unfold State.forwardHead
  split
  · exact h
  · next e es hq =>
    obtain ⟨hwords, hheld⟩ := h
    rw [hq, forwardedWords] at hwords
    exact ⟨(Nat.le_add_left _ _).trans hwords, hheld⟩

theorem sendFill (h : SendQueueOk s.ring) : SendQueueOk s.sendFill.ring := by
  unfold State.sendFill
  split
  · exact h
  · split <;> exact h

theorem hardRelease (h : SendQueueOk s.ring) : SendQueueOk s.hardRelease.ring := by
  unfold State.hardRelease
  split <;> exact h

theorem hardReset (s : State) : SendQueueOk s.hardReset.ring := ⟨Nat.zero_le _, List.forall_mem_nil _⟩

theorem holdsOfRows : HoldsOfRows fun s t => SendQueueOk s.ring → SendQueueOk t.ring where
  receive _ ws h := h.receive ws
  hardReset s _ := hardReset s
  hardRelease _ h := h.hardRelease
  gainLock _ h := h.gainLock
  lossOfLock _ h := h.lossOfLock
  linkNoticeTimerExpiry _ h := h.linkNoticeTimerExpiry
  forwardHead _ h := h.forwardHead
  sendFill _ h := h.sendFill
  resetNodeTakesEffect _ h := h.resetNodeTakesEffect
  holdTimerExpiry _ h := h.of_ring_eq (by simp)
  sampleTimerExpiry _ h := h.of_ring_eq (by simp)
  sensorAnswer _ _ h := h.of_ring_eq (by simp)
  answerLimitExpiry _ h := h.of_ring_eq (by simp)
  refreshBoundary _ h := h.of_ring_eq (by simp)
  eraseCompletion _ h := h.of_ring_eq (by simp)
  programCompletion _ _ h := h.of_ring_eq (by simp)
  verifyCompletion _ h := h.of_ring_eq (by simp)
  loadCompletion _ h := h.of_ring_eq (by simp)
  startupReadCompletion s h := h.of_ring_eq (startupReadCompletion_ring s)

end SendQueueOk

/-- Settles O15: a packet is forwarded only where 3069 words or fewer stand, and none is longer than 1027, so every row
keeps the bound. -/
theorem sendQueueStaysBounded : Obligations.SendQueueStaysBounded := fun _ _ h hstep =>
  SendQueueOk.holdsOfRows.step (fun _ _ h => h) h hstep

end Sys2Proof.Machine
end

section
/-! The link and its notices (R145 to R149, R158), packets that are not handled (R145, R151, R157, R163), and packets
that no block acts on (R149, R150, R153, R154). -/

namespace Sys2Proof.Machine

-- One theorem after another, as in the tests: side by side each would hold a thread and its stack.
set_option Elab.async false

/-! ### The link (R145 to R148) -/

/-- R145, R148: a notice placed, and the loss record removed after it or before. -/
theorem placeOwn_withoutLoss (r : Ring) (words : List Word) :
    { r.placeOwn words with loss := none } = Ring.withNotice { r with loss := none } words := by
  rw [placeOwn_eq]
  unfold Ring.withNotice
  split <;> rfl

/-- R148: lock gained with the loss record present. -/
theorem restoreLock_eq (s : State) (count number : Word) :
    s.restoreLock ⟨count, number⟩ =
      { s with
        ring :=
          Ring.withNotice { s.ring with link := .locked, standing := false, noticeTimer := none, loss := none }
            (s.linkNoticeWords 2#16 number)
        queue := s.queue.raise s.address .linkRestored (some count) } :=
  congrArg (fun r => { s with ring := r, queue := s.queue.raise s.address .linkRestored (some count) })
    (placeOwn_withoutLoss _ _)

/-- R146, R147: a LOST notice placed and counted. -/
theorem sendLost_eq (s : State) (count number : Word) :
    s.sendLost ⟨count, number⟩ =
      { s with
        ring :=
          Ring.withNotice
            { s.ring with
              loss := some ⟨if count = 65535#16 then 65535#16 else count + 1#16, number + 1#16⟩
              noticeTimer := some 250 }
            (s.linkNoticeWords 1#16 number) } := by
  rw [← saturatingInc_eq, ← placeOwn_eq]
  rfl

/-- R146: the loss counted, and the first LOST notice placed. -/
theorem loseLock_eq (s : State) :
    s.loseLock =
      { s with
        ring :=
          Ring.withNotice
            { s.ring with
              link := .unlocked
              standing := true
              arriving := []
              linkLosses := if s.ring.linkLosses = 65535#16 then 65535#16 else s.ring.linkLosses + 1#16
              loss := some ⟨1#16, 1#16⟩
              noticeTimer := some 250 }
            (s.linkNoticeWords 1#16 0#16) } := by
  rw [← saturatingInc_eq]
  exact sendLost_eq _ 0 0

/-- Settles O9: each event of the link is its one case, and a packet that stood whole at the loss is taken between the
notice's taking back and its placing again. -/
theorem linkLockAndLoss : Obligations.LinkLockAndLoss := by
  intro s notice
  refine ⟨fun hp hl hloss => ?_, fun count number hp hl hloss => ?_, fun hp hl => ?_,
    fun i r lost ws t hp hring hl hs hi hlen hexec => ?_, fun time count number htimer hl hloss => ?_⟩
  · have hgain : s.gainLock = { s with ring := { s.ring with link := .locked, standing := false } } := by
      rw [State.gainLock, hp, hl, hloss]
      rfl
    exact congrArg Host.Outcome.next hgain
  · have hgain : s.gainLock = s.restoreLock ⟨count, number⟩ := by
      rw [State.gainLock, hp, hl, hloss]
      rfl
    exact congrArg Host.Outcome.next (hgain.trans (restoreLock_eq s count number))
  · have hlost : s.lossOfLock = s.loseLock := by
      rw [State.lossOfLock, hl, hp]
      rfl
    exact congrArg Host.Outcome.next (hlost.trans (loseLock_eq s))
  · have hlocked := receive_locked (s := { s with ring := { r with link := .locked, standing := false } }) hp rfl ws
    rw [exec_words hi, hlocked] at hexec
    rw [exec_words hi, receive_standing hp hring hl hs hlen, ← placeOwn_eq]
    cases hexec
    rfl
  · have hexpiry : s.linkNoticeTimerExpiry =
        State.sendLost { s with ring := { s.ring with standing := false } } ⟨count, number⟩ := by
      rw [State.linkNoticeTimerExpiry, htimer, hl, hloss]
    exact congrArg Host.Outcome.next (hexpiry.trans (sendLost_eq _ count number))

/-! ### Packets that are not handled (R145, R151, R157, R163) -/

/-- R145, R146: while UNLOCKED nothing is taken but a packet that may have stood received whole at the loss. -/
theorem receive_unlocked_of_not_standing {s : State} {ws : List Word} (hp : s.resetPin = false)
    (hl : s.ring.link = .unlocked)
    (h : s.ring.standing = false ∨ 1027 < ws.length ∨ ∀ (r : Ring) (lost : List Word), s.ring ≠ r.withNotice lost) :
    s.receive ws = s := by
  rcases h with hs | hlong | hnotice
  · exact receive_unlocked hp hl hs ws
  · have hnot : ¬ (s.ring.standing = true ∧ ws.length ≤ Config.maxPacket) := fun ⟨_, hle⟩ =>
      absurd hlong (Nat.not_lt.mpr hle)
    rw [State.receive, hp, hl]
    exact if_neg hnot
  · have hstanding : s.takeStanding ws = s := by
      unfold State.takeStanding
      split
      · rfl
      · next r lost htake => exact absurd ((takeBack_eq_some _ _ _).mp htake) (hnotice r lost)
    rw [State.receive, hp, hl]
    dsimp only
    rw [hstanding, ite_self]
    rfl

/-- Settles O11: the three conditions a packet row meets before it is handled. -/
theorem packetsNotHandled : Obligations.PacketsNotHandled := by
  intro i ws s hi
  rw [exec_words hi]
  refine ⟨fun hp => ?_, fun hp hl h => ?_, fun hp hl hphase hlen => ?_⟩
  · rw [receive_pin hp]
    rfl
  · rw [receive_unlocked_of_not_standing hp hl h]
  · rw [receive_awaiting hp hl hphase hlen]

/-- Table 9-6: the kind code of FILL, in the first word. -/
theorem isFillKind_iff (ws : List Word) : isFillKind ws = true ↔ ws.head?.map (BitVec.setWidth 8) = some 0#8 := by
  cases ws with
  | nil => simp [isFillKind]
  | cons w ws =>
    rw [isFillKind, beq_iff_eq, kindCode_eq_iff w (by decide), List.head?_cons, Option.map_some, Option.some_inj]

/-- Settles O13: what is overrun is counted, unless it is FILL. -/
theorem overrunPacketsAreDropped : Obligations.OverrunPacketsAreDropped := by
  intro i ws s hi hp hl hphase hover hlen
  rw [exec_words hi, receive_overrun hp hl hphase hover hlen, State.overrun, ← saturatingInc_eq]
  simp only [isFillKind_iff]
  split <;> rfl

/-! ### Everything ahead of a run leaves before it (R149, R150, R163) -/

theorem sendAll_of_nil {s : State} (h : s.ring.sendQueue = []) : s.sendAll = s := by
  have hring : { s.ring with sendQueue := [] } = s.ring := by rw [← h]
  calc
    s.sendAll = { s with out := s.out ++ [], ring := { s.ring with sendQueue := [] } } := by rw [State.sendAll, h]; rfl
    _ = s := by rw [List.append_nil, hring]

/-- R149: sending the head and then all is sending all. -/
theorem sendAll_forwardHead (s : State) : s.forwardHead.sendAll = s.sendAll := by
  unfold State.forwardHead
  split
  · rfl
  · next e es hq =>
    unfold State.sendAll State.emit
    rw [hq]
    cases he : e.resets <;> simp [he]

/-- What clears the way begins with sending all, so it does not depend on what has been sent already. -/
theorem clearTheWay_of_sendAll_eq {s u : State} (h : s.sendAll = u.sendAll) (turns : Nat) :
    s.clearTheWay turns = u.clearTheWay turns := by
  cases turns with
  | zero => exact h
  | succ turns => rw [State.clearTheWay, State.clearTheWay, h]

/-- R118, R163: how many turns clear the way at most: one for a RESET NODE awaited, and one for each of what waits. -/
def Ring.turnsLeft (r : Ring) : Nat := r.held.length + if r.resetPhase = .idle then 0 else 1

theorem turnsLeft_of_idle {r : Ring} (h : r.resetPhase = .idle) : r.turnsLeft = r.held.length := by
  rw [Ring.turnsLeft, if_pos h, Nat.add_zero]

theorem turnsLeft_of_ne_idle {r : Ring} (h : r.resetPhase ≠ .idle) : r.turnsLeft = r.held.length + 1 := by
  rw [Ring.turnsLeft, if_neg h]

theorem turnsLeft_le (r : Ring) : r.turnsLeft ≤ r.held.length + 1 := by
  unfold Ring.turnsLeft
  split <;> omega

theorem turnsLeft_hold (r : Ring) (w : Waiting) : Ring.turnsLeft { r with held := r.held ++ [w] } = r.turnsLeft + 1 := by
  unfold Ring.turnsLeft
  dsimp only
  rw [List.length_append, List.length_singleton]
  omega

/-- R163: each of what waits adds a turn at most. -/
theorem turnsLeft_takeWaiting (s : State) (w : Waiting) :
    (s.takeWaiting w).ring.turnsLeft ≤ s.ring.turnsLeft + 1 := by
  cases w with
  | packet raw =>
    rw [State.takeWaiting, State.takeWhole]
    split
    · next hidle =>
      rw [turnsLeft_of_idle hidle, ← handle_held s raw]
      exact turnsLeft_le _
    · exact (turnsLeft_hold s.ring _).le
  | notice words =>
    rw [State.takeWaiting, State.placeOwn_ring, placeOwn_eq, Ring.withNotice]
    split
    · exact Nat.le_succ _
    · exact (turnsLeft_hold s.ring _).le

theorem turnsLeft_foldl_takeWaiting (s : State) (held : List Waiting) :
    (held.foldl State.takeWaiting s).ring.turnsLeft ≤ s.ring.turnsLeft + held.length := by
  induction held generalizing s with
  | nil => exact Nat.le_refl _
  | cons w held ih =>
    have hfirst := turnsLeft_takeWaiting s w
    have hrest := ih (s.takeWaiting w)
    rw [List.foldl_cons, List.length_cons]
    omega

/-- R163: a turn takes away at least the RESET NODE that was due. -/
theorem turnsLeft_resetNodeTakesEffect {s : State} (h : s.ring.resetPhase = .due) :
    s.resetNodeTakesEffect.ring.turnsLeft ≤ s.ring.held.length := by
  rw [resetNodeTakesEffect_due h]
  exact (turnsLeft_foldl_takeWaiting s.restarted s.ring.held).trans (Nat.zero_add _).le

/-- R118: with no RESET NODE awaited none falls due. -/
theorem sendAll_resetPhase_of_idle {s : State} (hq : RingQueueOk s.ring) (h : s.ring.resetPhase = .idle) :
    s.sendAll.ring.resetPhase = .idle := by
  have hnone : s.ring.sendQueue.any SendEntry.resets = false := by simpa using hq.no_answer (by simp [h])
  simp [State.sendAll, hnone, h]

theorem clearTheWay_of_not_due {s : State} (h : s.sendAll.ring.resetPhase ≠ .due) (turns : Nat) :
    s.clearTheWay turns = s.sendAll := by
  cases turns with
  | zero => rfl
  | succ turns => exact if_neg h

theorem clearTheWay_of_due {s : State} (h : s.sendAll.ring.resetPhase = .due) (turns : Nat) :
    s.clearTheWay (turns + 1) = s.sendAll.resetNodeTakesEffect.clearTheWay turns :=
  if_pos h

/-- Turns enough are enough: more of them change nothing. -/
theorem clearTheWay_of_turnsLeft_le {s : State} (hq : RingQueueOk s.ring) {m n : Nat} (hm : s.ring.turnsLeft ≤ m)
    (hn : s.ring.turnsLeft ≤ n) : s.clearTheWay m = s.clearTheWay n := by
  induction m generalizing s n with
  | zero =>
    have hidle : s.ring.resetPhase = .idle := by
      by_contra hne
      rw [turnsLeft_of_ne_idle hne] at hm
      omega
    have hnot : s.sendAll.ring.resetPhase ≠ .due := by simp [sendAll_resetPhase_of_idle hq hidle]
    rw [clearTheWay_of_not_due hnot, clearTheWay_of_not_due hnot]
  | succ m ih =>
    by_cases hdue : s.sendAll.ring.resetPhase = .due
    · have hne : s.ring.resetPhase ≠ .idle := fun hidle => by simp [sendAll_resetPhase_of_idle hq hidle] at hdue
      rw [turnsLeft_of_ne_idle hne] at hm hn
      obtain ⟨n, rfl⟩ := Nat.exists_eq_add_of_le' (Nat.le_of_add_left_le hn)
      have hleft := turnsLeft_resetNodeTakesEffect hdue
      rw [State.sendAll_held] at hleft
      rw [clearTheWay_of_due hdue, clearTheWay_of_due hdue]
      exact ih ((RingMoves.resetNodeTakesEffect _).queue ((RingMoves.sendAll s).queue hq)) (by omega) (by omega)
    · rw [clearTheWay_of_not_due hdue, clearTheWay_of_not_due hdue]

/-! ### A run of 1028 words and more (R150) -/

theorem passThrough_of_clearTheWay_eq {s u : State}
    (h : s.clearTheWay (s.ring.held.length + 1) = u.clearTheWay (u.ring.held.length + 1)) (ws : List Word) :
    s.passThrough ws = u.passThrough ws := by
  rw [State.passThrough, State.passThrough, h]

/-- R149: the head of the send queue leaves first anyway. -/
theorem passThrough_forwardHead (s : State) (ws : List Word) : s.forwardHead.passThrough ws = s.passThrough ws := by
  have hheld : s.forwardHead.ring.held = s.ring.held := by
    unfold State.forwardHead
    split <;> rfl
  refine passThrough_of_clearTheWay_eq ?_ ws
  rw [hheld]
  exact clearTheWay_of_sendAll_eq (sendAll_forwardHead s) _

/-- R163: with nothing to send, a RESET NODE that is due takes effect first anyway. -/
theorem passThrough_resetNodeTakesEffect {s : State} (hnil : s.ring.sendQueue = []) (hdue : s.ring.resetPhase = .due)
    (ws : List Word) : s.resetNodeTakesEffect.passThrough ws = s.passThrough ws := by
  have hq : RingQueueOk s.ring := ⟨by rw [hnil, hdue]; rfl, fun _ => by simp [hdue]⟩
  have hsent : s.sendAll = s := sendAll_of_nil hnil
  refine passThrough_of_clearTheWay_eq ?_ ws
  rw [clearTheWay_of_due (s := s) (by rw [hsent, hdue]), hsent]
  exact clearTheWay_of_turnsLeft_le ((RingMoves.resetNodeTakesEffect s).queue hq) (turnsLeft_le _)
    (turnsLeft_resetNodeTakesEffect hdue)

theorem withInput_forwardHead (s : State) (l : Link) (a : List Word) :
    (s.withInput l a).forwardHead = s.forwardHead.withInput l a := by
  unfold State.forwardHead State.withInput
  dsimp only
  split <;> rfl

/-- What waited for a RESET NODE is taken alike whatever the ring input. -/
theorem withInput_resetNodeTakesEffect {s : State} (h : s.ring.resetPhase = .due) (l : Link) (a : List Word) :
    (s.withInput l a).resetNodeTakesEffect = s.resetNodeTakesEffect.withInput l a := by
  have htake (u : State) (w : Waiting) : (u.withInput l a).takeWaiting w = (u.takeWaiting w).withInput l a := by
    cases w with
    | packet raw => exact WithInput.takeWhole u l a raw
    | notice words =>
      unfold State.takeWaiting State.placeOwn State.withInput Ring.placeOwn
      dsimp only
      split <;> rfl
  rw [resetNodeTakesEffect_due h, resetNodeTakesEffect_due (s := s.withInput l a) h]
  exact List.foldl_hom (init := s.restarted) (l := s.ring.held) (State.withInput · l a) htake

/-- R150: the run is received as its words pass through, with no packet partly received. -/
theorem exec_damagedPacket_long {s : State} {ws : List Word} (hp : s.resetPin = false) (hl : s.ring.link = .locked)
    (hlen : 1027 < ws.length) :
    exec (.damagedPacket ws) s = .next ((s.withInput .locked []).passThrough ws) := by
  rw [exec_words rfl, receive_locked hp hl, takeRun_long hlen, ← hl]
  rfl

/-- A run of 1028 words and more is put out once what came before it has left. -/
theorem exec_damagedPacket_clear {s : State} {ws : List Word} (hp : s.resetPin = false) (hl : s.ring.link = .locked)
    (hlen : 1027 < ws.length) (hnil : s.ring.sendQueue = []) (hidle : s.ring.resetPhase = .idle) :
    exec (.damagedPacket ws) s =
      .next (((s.withInput .locked []).countDamaged).emit (.packet ws)) := by
  have hany : (s.withInput .locked []).ring.sendQueue.any SendEntry.resets = false := by
    change s.ring.sendQueue.any _ = false
    rw [hnil]
    rfl
  rw [exec_damagedPacket_long hp hl hlen, passThrough_eq (s := s.withInput .locked []) hidle hany,
    sendAll_of_nil (s := s.withInput .locked []) hnil]

/-! ### The packets no block acts on (R149, R153, R154) -/

theorem length_le_of_judge_unknown {ws : List Word} (h : judge ws = .unknown) : ws.length ≤ 1027 := by
  obtain ⟨kind, payload, hlen, rfl, -⟩ := (judgementIsExact.2.1 ws).mp h
  rw [length_withCheck]
  omega

/-- Settles O12: what a node that takes packets in does with each kind, and, for a long run, that what came before it
leaves within its command whether or not it has left already. -/
theorem packetsNoBlockActsOn : Obligations.PacketsNoBlockActsOn := by
  refine ⟨fun s hr => ⟨fun attrs payload hlen => ?_, fun attrs origin cause number => ?_, fun ws hj hlen => ?_,
    fun ws hj => ?_⟩, fun s ws hp hl hlen => ⟨fun _ u hu => ?_, fun hnil hdue u hu => ?_, fun hnil hidle => ?_⟩⟩
  · exact exec_wellFormed (p := .fill attrs payload) rfl hr (decide_eq_true hlen)
  · exact exec_wellFormed (p := .linkNotice attrs origin cause number) rfl hr rfl
  · rw [exec_words rfl, receive_receiving hr hlen, hj, ← saturatingInc_eq]
    rfl
  · rw [exec_words rfl, receive_receiving hr (length_le_of_judge_unknown hj), hj, ← saturatingInc_eq]
    rfl
  · cases hu
    have hp' : s.forwardHead.resetPin = false := by
      unfold State.forwardHead
      split <;> exact hp
    have hl' : s.forwardHead.ring.link = .locked := by
      unfold State.forwardHead
      split <;> exact hl
    rw [exec_damagedPacket_long hp hl hlen, exec_damagedPacket_long hp' hl' hlen, ← withInput_forwardHead,
      passThrough_forwardHead]
  · cases hu
    obtain ⟨pin, ⟨link, -, -, -⟩, -⟩ := RingMoves.resetNodeTakesEffect s
    rw [exec_damagedPacket_long hp hl hlen, exec_damagedPacket_long (pin.trans hp) (link.trans hl) hlen,
      ← withInput_resetNodeTakesEffect hdue,
      passThrough_resetNodeTakesEffect (s := s.withInput .locked []) hnil hdue]
  · rw [exec_damagedPacket_clear hp hl hlen hnil hidle, ← saturatingInc_eq, ← hl]
    rfl

end Sys2Proof.Machine
end

section
/-! CLEAR COUNTERS (R171, R172): the eight counters 0 at its acceptance, and the counters kept at its refusal. -/

namespace Sys2Proof.Machine

-- One theorem after another, as in the tests: side by side each would hold a thread and its stack.
set_option Elab.async false

/-- R172: no other state changes. -/
theorem clearCounters_eq (s : State) :
    s.clearCounters =
      { s with
        ring := { s.ring with damagedPackets := 0#16, unknownPackets := 0#16, linkLosses := 0#16 }
        commands := { s.commands with sequenceRefusals := 0#16 }
        intake := ⟨0#16, 0#16⟩
        frames := { s.frames with skippedFrames := 0#16, unmatchedShows := 0#16 } } := rfl

/-- Settles O33: LOADING does not take the command, and elsewhere no owner's check and no entry stands in its way. -/
theorem clearCountersClears : Obligations.ClearCountersClears := by
  intro h s ho
  refine ⟨fun hn => ?_, fun hn => ?_⟩
  · exact exec_offered_unavailable .clearCounters ho rfl
      (by rw [hn]; exact availableIn_loading (by simp) (by simp) (by simp))
  · rw [← clearCounters_eq]
    exact exec_offered_accepted .clearCounters ho rfl (availableIn_of_ne_loading hn (by simp)) rfl
      (fun e => (nomatch e))

end Sys2Proof.Machine
end
